-- ==== Sys2Proof/Word.lean ====
section
/-! DEFINITION. Word.lean: the widths of the machine (00_scope R11, R12): a word is 32 bits, a halfword 16, a byte 8. -/

namespace Sys2Proof

/-- A 32-bit word: register contents, addresses, instructions (R11). -/
abbrev Word := BitVec 32

/-- A 16-bit halfword (R11). -/
abbrev Half := BitVec 16

/-- An 8-bit byte, the unit of memory (R11, R90). -/
abbrev Byte := BitVec 8

/-- A 4-bit register number of an instruction, naming R0 to R15 (R40). -/
abbrev Reg := BitVec 4

end Sys2Proof
end

