-- ==== Sys2Proof/Machine/Bits.lean ====
section
/-! DEFINITION. Machine/Bits.lean: bit fields, shifts, saturation and the widths of the pseudo-code's primitives (00_scope
R22 to R28). Arithmetic is done on unbounded integers and narrowed at the end. -/

namespace Sys2Proof.Machine

/-- `x` with bit `k` set to `b`. -/
def withBit (x : BitVec w) (k : Nat) (b : Bool) : BitVec w :=
  if b then x ||| BitVec.twoPow w k else x &&& ~~~ BitVec.twoPow w k

/-- `x` with the bits from `lo` up replaced by the `m` bits of `v`. -/
def withField (x : BitVec w) (lo : Nat) (v : BitVec m) : BitVec w :=
  (x &&& ~~~ ((BitVec.allOnes m).setWidth w <<< lo)) ||| (v.setWidth w <<< lo)

/-- `x Rotate_Right n` (R28). -/
def rotr (x : Word) (n : Nat) : Word := x.rotateRight n

/-- `x Arithmetic_Shift_Right n` (R28). -/
def asr (x : Word) (n : Nat) : Word := x.sshiftRight n

/-- The integer a bit vector stands for, signed or unsigned (R14, `sint` and the plain reading). -/
def intOf (signed : Bool) (x : BitVec w) : Int := if signed then x.toInt else x.toNat

/-- Byte `k` of a word, from the least significant. -/
def byteOf (x : Word) (k : Nat) : Byte := x.extractLsb' (8 * k) 8

/-- The bottom or the top halfword of a word (R171). -/
def halfOf (x : Word) (top : Bool) : Half := if top then x.extractLsb' 16 16 else x.extractLsb' 0 16

/-- A word from its halfwords. -/
def ofHalves (hi lo : Half) : Word := hi ++ lo

/-- A word from its bytes, the most significant first. -/
def ofBytes (b3 b2 b1 b0 : Byte) : Word := b3 ++ b2 ++ b1 ++ b0

/-- `SignExtend` to a word (R27). -/
def sext (x : BitVec m) : Word := x.signExtend 32

/-- `ZeroExtend` to a word (R27). -/
def zext (x : BitVec m) : Word := x.setWidth 32

/-- `SignedSat(x, n)` for 1 <= n (R25). -/
def signedSat (x : Int) (n : Nat) : Int :=
  if x < -(2 ^ (n - 1) : Int) then -(2 ^ (n - 1) : Int)
  else if 2 ^ (n - 1) - 1 < x then 2 ^ (n - 1) - 1
  else x

/-- `SignedDoesSat(x, n)` (R25). -/
def signedDoesSat (x : Int) (n : Nat) : Bool :=
  decide (x < -(2 ^ (n - 1) : Int)) || decide (2 ^ (n - 1) - 1 < x)

/-- `UnsignedSat(x, n)` (R26). -/
def unsignedSat (x : Int) (n : Nat) : Int :=
  if x < 0 then 0 else if 2 ^ n - 1 < x then 2 ^ n - 1 else x

/-- `UnsignedDoesSat(x, n)` (R26). -/
def unsignedDoesSat (x : Int) (n : Nat) : Bool := decide (x < 0) || decide (2 ^ n - 1 < x)

/-- The low 32 bits of an integer: what an assignment to a register keeps (R14). -/
def toWord (x : Int) : Word := BitVec.ofInt 32 x

/-- Whether an integer lies outside the signed 32-bit range (`OverflowFrom`, R24). -/
def overflows (x : Int) : Bool := signedDoesSat x 32

/-- `Number_Of_Set_Bits_In` (R34). -/
def setBits (x : BitVec w) : Nat := ((List.range w).filter (fun i => x.getLsbD i)).length

end Sys2Proof.Machine
end

