-- ==== Sys2Proof/Machine/Memory.lean ====
section
/-! DEFINITION. Machine/Memory.lean: memory as a list of cells in one canonical form (20_memory R90, R91), and the set of
addresses written since launch (R128). Addresses are natural numbers below 2^32, reached from a word by `toNat`. -/

namespace Sys2Proof.Machine

/-- What an address nothing lists reads as: no value (R91). DESIGN CHOICE (log entry 4): reading it faults, which is
safe. -/
def unlistedByte : Option Byte := none

/-- The byte at an address, if it holds one. -/
def Memory.read : List Host.Cell → Nat → Option Byte
  | [], _ => unlistedByte
  | (k, b) :: rest, a => if k = a then some b else Memory.read rest a

/-- The cells with one byte put in its place. -/
def Memory.insert : List Host.Cell → Nat → Byte → List Host.Cell
  | [], a, v => [(a, v)]
  | (k, b) :: rest, a, v =>
    if a < k then (a, v) :: (k, b) :: rest
    else if a = k then (a, v) :: rest
    else (k, b) :: Memory.insert rest a v

/-- Writes one byte, keeping the canonical form: a byte equal to what an unlisted address reads as is not listed. -/
def Memory.write (m : List Host.Cell) (a : Nat) (v : Byte) : List Host.Cell :=
  if unlistedByte = some v then m.filter (fun c => c.1 ≠ a) else Memory.insert m a v

/-- The canonical form: addresses strictly rising and inside the address space, and no cell equal to what an unlisted
address reads as. -/
def Memory.wf : List Host.Cell → Bool
  | [] => true
  | [(k, b)] => k < 2 ^ 32 && unlistedByte != some b
  | (k, b) :: (k', b') :: rest => k < k' && unlistedByte != some b && Memory.wf ((k', b') :: rest)

/-- Adds an address to a rising list of addresses. -/
def AddrSet.insert : List Nat → Nat → List Nat
  | [], a => [a]
  | k :: rest, a =>
    if a < k then a :: k :: rest else if a = k then k :: rest else k :: AddrSet.insert rest a

/-- The canonical form of a set of addresses: strictly rising, inside the address space. -/
def AddrSet.wf : List Nat → Bool
  | [] => true
  | [k] => k < 2 ^ 32
  | k :: k' :: rest => k < k' && AddrSet.wf (k' :: rest)

end Sys2Proof.Machine
end

