-- ==== Sys2Proof/Config.lean ====
section
/-! DEFINITION. Config.lean: what an implementation fixes. `Params` holds the parameters of rule R9 that are data;
`Config` holds, without a body, what the spec leaves to the implementation (R18 "IMPLEMENTATION DEFINED") and the free
values, so that no statement can rest on a choice. -/

namespace Sys2Proof

/-- The architecture versions the spec covers (R2, parameter `ARCH` of R9). -/
inductive Arch where
  | v4 | v4T | v5T | v5TE | v5TExP | v5TEJ | v6
  deriving DecidableEq, Repr

/-- A run of `size` byte addresses from `base` on. -/
structure Region where
  base : Nat
  size : Nat
  deriving DecidableEq, Repr

/-- The parameters of rule R9 that are plain data. A step reads them and never changes them (R70). -/
structure Params where
  /-- `ARCH`. -/
  arch : Arch
  /-- `CP15_U`: the ARMv6 unaligned-access model (R62, R99). -/
  cp15U : Bool
  /-- `CP15_A`: alignment fault checking (R62, R99). -/
  cp15A : Bool
  /-- `CP15_B`: legacy big-endian, BE-32 (R62, R95). -/
  cp15B : Bool
  /-- `CP15_EE`: the value CPSR.E takes on exception entry (R62, R570). -/
  cp15EE : Bool
  /-- `HIVECS`: high vectors configured (R62, R561). -/
  hivecs : Bool
  /-- `JE`: Jazelle enabled (R63, R385). -/
  je : Bool
  /-- `DEBUG_OVERRIDE`: debug hardware overrides BKPT (R508). -/
  debugOverride : Bool
  /-- The complement of `MEM_MAP`: the addresses that hold no memory (R113). -/
  unmapped : List Region
  /-- `SHARED`: the addresses with the Shared attribute (R116). -/
  shared : List Region
  deriving DecidableEq, Repr

/-- The default parameters of rule R9. -/
def Params.default : Params :=
  { arch := .v6, cp15U := false, cp15A := false, cp15B := false, cp15EE := false, hivecs := false,
    je := false, debugOverride := false, unmapped := [], shared := [] }

namespace Machine

/-- A set of instruction words a coprocessor accepts: those equal to `value` under `mask`, in the processor mode of the
number `mode`, or in every mode. `moreWords` is one less than the words an LDC or STC of the set moves, so that at least
one moves (`accepts` and `count` of R533). -/
structure CoprocPattern where
  mask : Word
  value : Word
  mode : Option (BitVec 5)
  moreWords : Nat
  deriving DecidableEq, Repr, Inhabited

/-- The state of a present coprocessor (R533): which words it now accepts, the first matching set first, and the rest, a
list of words. Each of its operations gives a whole new state, so `accepts` and `count` are functions of the state
(log entry 9). -/
structure CoprocUnit where
  accepts : List CoprocPattern
  data : List Word
  deriving DecidableEq, Repr, Inhabited

end Machine

open Machine

namespace Config

/-- The k-th free value: a word of which the spec says only that it is UNPREDICTABLE (R20). -/
opaque freeWord : Nat → Word

/-- `PC_STORE_OFFSET` (R9, R419): whether a stored R15 is the instruction's address plus 12 rather than plus 8. -/
opaque pcStoreTwelve : Bool

/-- Whether the local monitor, marked at the first address, lets a STREX to the second, different address succeed:
IMPLEMENTATION DEFINED (R123). -/
opaque localMonitorAccepts : Word → Word → Bool

/-- The reservation granule is `8 * 2 ^ k` bytes, 8 to 2048: IMPLEMENTATION DEFINED (R124). -/
opaque granuleScale : Fin 9

/-- `cdp` of R533: coprocessor number, its state, the instruction word; its new state. -/
opaque coprocCdp : Nat → CoprocUnit → Word → CoprocUnit

/-- `mcr` of R533: the coprocessor receives one word. -/
opaque coprocMcr : Nat → CoprocUnit → Word → Word → CoprocUnit

/-- `mrc` of R533: the coprocessor supplies one word. -/
opaque coprocMrc : Nat → CoprocUnit → Word → Word × CoprocUnit

/-- `mcrr` of R533: the coprocessor receives two words, the first from `Rd`, the second from `Rn`. -/
opaque coprocMcrr : Nat → CoprocUnit → Word → Word → Word → CoprocUnit

/-- `mrrc` of R533: the coprocessor supplies two words, the first for `Rd`, the second for `Rn`. -/
opaque coprocMrrc : Nat → CoprocUnit → Word → Word × Word × CoprocUnit

/-- `ldc` of R533: the coprocessor receives the words, lowest address first. -/
opaque coprocLdc : Nat → CoprocUnit → Word → List Word → CoprocUnit

/-- The words of `stc` of R533: word number `i` (from 0, lowest address first) that the coprocessor supplies. -/
opaque coprocStcWord : Nat → CoprocUnit → Word → Nat → Word

/-- The state of the coprocessor after `stc` (R533). -/
opaque coprocStcState : Nat → CoprocUnit → Word → CoprocUnit

end Config

end Sys2Proof
end

