-- ==== Sys2Proof/Syntax.lean ====
section
/-! DEFINITION. Syntax.lean: the instructions, one constructor per row of spec/opcode_table.json, with the operand forms
of the five addressing modes. The arguments of a constructor stand in the order of the encoding's fields, from bit 31
down; fields the encoding fixes do not appear. -/

namespace Sys2Proof

/-- The fifteen conditions of R143; 0b1111 is no condition (R144). -/
inductive Cond where
  | eq | ne | cs | cc | mi | pl | vs | vc | hi | ls | ge | lt | gt | le | al
  deriving DecidableEq, Repr

/-- The four shifts of bits 6:5 (R150). ROR by an immediate 0 is RRX (R161). -/
inductive ShiftType where
  | lsl | lsr | asr | ror
  deriving DecidableEq, Repr

/-- Addressing Mode 1 (R150 to R161): the second operand of a data-processing instruction. -/
inductive Operand2 where
  /-- Form 1 (R151): an 8-bit immediate rotated right by twice `rot`. -/
  | imm (rot : BitVec 4) (imm : BitVec 8)
  /-- Forms 2, 3, 5, 7, 9 and 11: `rm` shifted by a 5-bit immediate. -/
  | shiftImm (amount : BitVec 5) (sh : ShiftType) (rm : Reg)
  /-- Forms 4, 6, 8 and 10: `rm` shifted by the low byte of `rs`. -/
  | shiftReg (rs : Reg) (sh : ShiftType) (rm : Reg)
  deriving DecidableEq, Repr

/-- The offset forms of Addressing Mode 2 (R401). -/
inductive Offset2 where
  | imm (off : BitVec 12)
  | reg (amount : BitVec 5) (sh : ShiftType) (rm : Reg)
  deriving DecidableEq, Repr

/-- The indexing of LDR, LDRB, STR and STRB (R401); P = 0 with W = 1 is LDRT, LDRBT, STRT or STRBT. -/
inductive Index2 where
  | offset | pre | post
  deriving DecidableEq, Repr

/-- The offset forms of Addressing Mode 3 (R405). -/
inductive Offset3 where
  | imm (off : BitVec 8)
  | reg (rm : Reg)
  deriving DecidableEq, Repr

/-- The indexing of Addressing Mode 3 (R405); `postW` is P = 0 with W = 1, which is UNPREDICTABLE. -/
inductive Index3 where
  | offset | pre | post | postW
  deriving DecidableEq, Repr

/-- Addressing Mode 4 (R450): increment or decrement, after or before. -/
inductive Mode4 where
  | ia | ib | da | db
  deriving DecidableEq, Repr

/-- Addressing Mode 5 (R530); `up` is the U bit, which is 1 in the unindexed form. -/
inductive Mode5 where
  | offset (up : Bool) | pre (up : Bool) | post (up : Bool) | unindexed
  deriving DecidableEq, Repr

/-- An instruction: one constructor per row of the opcode table, in the table's order, with the rule that gives it its
meaning. -/
inductive Instr where
  /-- ADC: R204. -/
  | adc (c : Cond) (sf : Bool) (rn rd : Reg) (op : Operand2)
  /-- ADD: R205. -/
  | add (c : Cond) (sf : Bool) (rn rd : Reg) (op : Operand2)
  /-- AND: R206. -/
  | and (c : Cond) (sf : Bool) (rn rd : Reg) (op : Operand2)
  /-- B: R381. -/
  | b (c : Cond) (imm : BitVec 24)
  /-- BIC: R207. -/
  | bic (c : Cond) (sf : Bool) (rn rd : Reg) (op : Operand2)
  /-- BKPT: R508. -/
  | bkpt (imm : BitVec 16)
  /-- BL: R381. -/
  | bl (c : Cond) (imm : BitVec 24)
  /-- BLX (1): R382. -/
  | blx1 (h : Bool) (imm : BitVec 24)
  /-- BLX (2): R383. -/
  | blx2 (c : Cond) (rm : Reg)
  /-- BX: R384. -/
  | bx (c : Cond) (rm : Reg)
  /-- BXJ: R385. -/
  | bxj (c : Cond) (rm : Reg)
  /-- CDP: R534. -/
  | cdp (c : Cond) (op1 : BitVec 4) (crn crd : Reg) (cp : BitVec 4) (op2 : BitVec 3) (crm : Reg)
  /-- CDP2: R534. -/
  | cdp2 (op1 : BitVec 4) (crn crd : Reg) (cp : BitVec 4) (op2 : BitVec 3) (crm : Reg)
  /-- CLZ: R208. -/
  | clz (c : Cond) (rd rm : Reg)
  /-- CMN: R209. -/
  | cmn (c : Cond) (rn : Reg) (op : Operand2)
  /-- CMP: R210. -/
  | cmp (c : Cond) (rn : Reg) (op : Operand2)
  /-- CPS: R505. -/
  | cps (imod : BitVec 2) (mmod a ib f : Bool) (mode : BitVec 5)
  /-- CPY: R211. -/
  | cpy (c : Cond) (rd rm : Reg)
  /-- EOR: R212. -/
  | eor (c : Cond) (sf : Bool) (rn rd : Reg) (op : Operand2)
  /-- LDC: R535. -/
  | ldc (c : Cond) (am : Mode5) (long : Bool) (rn crd : Reg) (cp : BitVec 4) (off : BitVec 8)
  /-- LDC2: R535. -/
  | ldc2 (am : Mode5) (long : Bool) (rn crd : Reg) (cp : BitVec 4) (off : BitVec 8)
  /-- LDM (1): R453. -/
  | ldm1 (c : Cond) (am : Mode4) (wb : Bool) (rn : Reg) (list : BitVec 16)
  /-- LDM (2): R454. -/
  | ldm2 (c : Cond) (am : Mode4) (rn : Reg) (list : BitVec 15)
  /-- LDM (3): R455. -/
  | ldm3 (c : Cond) (am : Mode4) (wb : Bool) (rn : Reg) (list : BitVec 15)
  /-- LDR: R410. -/
  | ldr (c : Cond) (ix : Index2) (up : Bool) (rn rd : Reg) (off : Offset2)
  /-- LDRB: R411. -/
  | ldrb (c : Cond) (ix : Index2) (up : Bool) (rn rd : Reg) (off : Offset2)
  /-- LDRBT: R412. -/
  | ldrbt (c : Cond) (up : Bool) (rn rd : Reg) (off : Offset2)
  /-- LDRD: R413. -/
  | ldrd (c : Cond) (ix : Index3) (up : Bool) (rn rd : Reg) (off : Offset3)
  /-- LDREX: R481. -/
  | ldrex (c : Cond) (rn rd : Reg)
  /-- LDRH: R414. -/
  | ldrh (c : Cond) (ix : Index3) (up : Bool) (rn rd : Reg) (off : Offset3)
  /-- LDRSB: R415. -/
  | ldrsb (c : Cond) (ix : Index3) (up : Bool) (rn rd : Reg) (off : Offset3)
  /-- LDRSH: R416. -/
  | ldrsh (c : Cond) (ix : Index3) (up : Bool) (rn rd : Reg) (off : Offset3)
  /-- LDRT: R417. -/
  | ldrt (c : Cond) (up : Bool) (rn rd : Reg) (off : Offset2)
  /-- MCR: R537. -/
  | mcr (c : Cond) (op1 : BitVec 3) (crn rd : Reg) (cp : BitVec 4) (op2 : BitVec 3) (crm : Reg)
  /-- MCR2: R537. -/
  | mcr2 (op1 : BitVec 3) (crn rd : Reg) (cp : BitVec 4) (op2 : BitVec 3) (crm : Reg)
  /-- MCRR: R538. -/
  | mcrr (c : Cond) (rn rd : Reg) (cp opc : BitVec 4) (crm : Reg)
  /-- MCRR2: R538. -/
  | mcrr2 (rn rd : Reg) (cp opc : BitVec 4) (crm : Reg)
  /-- MLA: R245. -/
  | mla (c : Cond) (sf : Bool) (rd rn rs rm : Reg)
  /-- MOV: R213. -/
  | mov (c : Cond) (sf : Bool) (rd : Reg) (op : Operand2)
  /-- MRC: R539. -/
  | mrc (c : Cond) (op1 : BitVec 3) (crn rd : Reg) (cp : BitVec 4) (op2 : BitVec 3) (crm : Reg)
  /-- MRC2: R539. -/
  | mrc2 (op1 : BitVec 3) (crn rd : Reg) (cp : BitVec 4) (op2 : BitVec 3) (crm : Reg)
  /-- MRRC: R540. -/
  | mrrc (c : Cond) (rn rd : Reg) (cp opc : BitVec 4) (crm : Reg)
  /-- MRRC2: R540. -/
  | mrrc2 (rn rd : Reg) (cp opc : BitVec 4) (crm : Reg)
  /-- MRS: R501. -/
  | mrs (c : Cond) (r : Bool) (rd : Reg)
  /-- MSR immediate: R502. -/
  | msrImm (c : Cond) (r : Bool) (mask rot : BitVec 4) (imm : BitVec 8)
  /-- MSR register: R502. -/
  | msrReg (c : Cond) (r : Bool) (mask : BitVec 4) (rm : Reg)
  /-- MUL: R246. -/
  | mul (c : Cond) (sf : Bool) (rd rs rm : Reg)
  /-- MVN: R214. -/
  | mvn (c : Cond) (sf : Bool) (rd : Reg) (op : Operand2)
  /-- ORR: R215. -/
  | orr (c : Cond) (sf : Bool) (rn rd : Reg) (op : Operand2)
  /-- PKHBT: R343. -/
  | pkhbt (c : Cond) (rn rd : Reg) (sh : BitVec 5) (rm : Reg)
  /-- PKHTB: R344. -/
  | pkhtb (c : Cond) (rn rd : Reg) (sh : BitVec 5) (rm : Reg)
  /-- PLD: R418. -/
  | pld (up : Bool) (rn : Reg) (off : Offset2)
  /-- QADD: R345. -/
  | qadd (c : Cond) (rn rd rm : Reg)
  /-- QADD16: R286. -/
  | qadd16 (c : Cond) (rn rd rm : Reg)
  /-- QADD8: R287. -/
  | qadd8 (c : Cond) (rn rd rm : Reg)
  /-- QADDSUBX: R288. -/
  | qaddsubx (c : Cond) (rn rd rm : Reg)
  /-- QDADD: R346. -/
  | qdadd (c : Cond) (rn rd rm : Reg)
  /-- QDSUB: R347. -/
  | qdsub (c : Cond) (rn rd rm : Reg)
  /-- QSUB: R348. -/
  | qsub (c : Cond) (rn rd rm : Reg)
  /-- QSUB16: R289. -/
  | qsub16 (c : Cond) (rn rd rm : Reg)
  /-- QSUB8: R290. -/
  | qsub8 (c : Cond) (rn rd rm : Reg)
  /-- QSUBADDX: R291. -/
  | qsubaddx (c : Cond) (rn rd rm : Reg)
  /-- REV: R349. -/
  | rev (c : Cond) (rd rm : Reg)
  /-- REV16: R350. -/
  | rev16 (c : Cond) (rd rm : Reg)
  /-- REVSH: R351. -/
  | revsh (c : Cond) (rd rm : Reg)
  /-- RFE: R458. -/
  | rfe (am : Mode4) (wb : Bool) (rn : Reg)
  /-- RSB: R216. -/
  | rsb (c : Cond) (sf : Bool) (rn rd : Reg) (op : Operand2)
  /-- RSC: R217. -/
  | rsc (c : Cond) (sf : Bool) (rn rd : Reg) (op : Operand2)
  /-- SADD16: R292. -/
  | sadd16 (c : Cond) (rn rd rm : Reg)
  /-- SADD8: R293. -/
  | sadd8 (c : Cond) (rn rd rm : Reg)
  /-- SADDSUBX: R294. -/
  | saddsubx (c : Cond) (rn rd rm : Reg)
  /-- SBC: R218. -/
  | sbc (c : Cond) (sf : Bool) (rn rd : Reg) (op : Operand2)
  /-- SEL: R295. -/
  | sel (c : Cond) (rn rd rm : Reg)
  /-- SETEND: R506. -/
  | setend (e : Bool)
  /-- SHADD16: R296. -/
  | shadd16 (c : Cond) (rn rd rm : Reg)
  /-- SHADD8: R297. -/
  | shadd8 (c : Cond) (rn rd rm : Reg)
  /-- SHADDSUBX: R298. -/
  | shaddsubx (c : Cond) (rn rd rm : Reg)
  /-- SHSUB16: R299. -/
  | shsub16 (c : Cond) (rn rd rm : Reg)
  /-- SHSUB8: R300. -/
  | shsub8 (c : Cond) (rn rd rm : Reg)
  /-- SHSUBADDX: R301. -/
  | shsubaddx (c : Cond) (rn rd rm : Reg)
  /-- SMLA<x><y>: R247. -/
  | smlaxy (c : Cond) (rd rn rs : Reg) (y x : Bool) (rm : Reg)
  /-- SMLAD: R248. -/
  | smlad (c : Cond) (rd rn rs : Reg) (x : Bool) (rm : Reg)
  /-- SMLAL: R249. -/
  | smlal (c : Cond) (sf : Bool) (rdHi rdLo rs rm : Reg)
  /-- SMLAL<x><y>: R250. -/
  | smlalxy (c : Cond) (rdHi rdLo rs : Reg) (y x : Bool) (rm : Reg)
  /-- SMLALD: R251. -/
  | smlald (c : Cond) (rdHi rdLo rs : Reg) (x : Bool) (rm : Reg)
  /-- SMLAW<y>: R252. -/
  | smlawy (c : Cond) (rd rn rs : Reg) (y : Bool) (rm : Reg)
  /-- SMLSD: R253. -/
  | smlsd (c : Cond) (rd rn rs : Reg) (x : Bool) (rm : Reg)
  /-- SMLSLD: R254. -/
  | smlsld (c : Cond) (rdHi rdLo rs : Reg) (x : Bool) (rm : Reg)
  /-- SMMLA: R255. -/
  | smmla (c : Cond) (rd rn rs : Reg) (r : Bool) (rm : Reg)
  /-- SMMLS: R256. -/
  | smmls (c : Cond) (rd rn rs : Reg) (r : Bool) (rm : Reg)
  /-- SMMUL: R257. -/
  | smmul (c : Cond) (rd rs : Reg) (r : Bool) (rm : Reg)
  /-- SMUAD: R258. -/
  | smuad (c : Cond) (rd rs : Reg) (x : Bool) (rm : Reg)
  /-- SMUL<x><y>: R259. -/
  | smulxy (c : Cond) (rd rs : Reg) (y x : Bool) (rm : Reg)
  /-- SMULL: R260. -/
  | smull (c : Cond) (sf : Bool) (rdHi rdLo rs rm : Reg)
  /-- SMULW<y>: R261. -/
  | smulwy (c : Cond) (rd rs : Reg) (y : Bool) (rm : Reg)
  /-- SMUSD: R262. -/
  | smusd (c : Cond) (rd rs : Reg) (x : Bool) (rm : Reg)
  /-- SRS: R459. -/
  | srs (am : Mode4) (wb : Bool) (mode : BitVec 5)
  /-- SSAT: R352. -/
  | ssat (c : Cond) (sat : BitVec 5) (rd : Reg) (amount : BitVec 5) (asr : Bool) (rm : Reg)
  /-- SSAT16: R353. -/
  | ssat16 (c : Cond) (sat : BitVec 4) (rd rm : Reg)
  /-- SSUB16: R302. -/
  | ssub16 (c : Cond) (rn rd rm : Reg)
  /-- SSUB8: R303. -/
  | ssub8 (c : Cond) (rn rd rm : Reg)
  /-- SSUBADDX: R304. -/
  | ssubaddx (c : Cond) (rn rd rm : Reg)
  /-- STC: R536. -/
  | stc (c : Cond) (am : Mode5) (long : Bool) (rn crd : Reg) (cp : BitVec 4) (off : BitVec 8)
  /-- STC2: R536. -/
  | stc2 (am : Mode5) (long : Bool) (rn crd : Reg) (cp : BitVec 4) (off : BitVec 8)
  /-- STM (1): R456. -/
  | stm1 (c : Cond) (am : Mode4) (wb : Bool) (rn : Reg) (list : BitVec 16)
  /-- STM (2): R457. -/
  | stm2 (c : Cond) (am : Mode4) (rn : Reg) (list : BitVec 16)
  /-- STR: R419. -/
  | str (c : Cond) (ix : Index2) (up : Bool) (rn rd : Reg) (off : Offset2)
  /-- STRB: R420. -/
  | strb (c : Cond) (ix : Index2) (up : Bool) (rn rd : Reg) (off : Offset2)
  /-- STRBT: R421. -/
  | strbt (c : Cond) (up : Bool) (rn rd : Reg) (off : Offset2)
  /-- STRD: R422. -/
  | strd (c : Cond) (ix : Index3) (up : Bool) (rn rd : Reg) (off : Offset3)
  /-- STREX: R482. -/
  | strex (c : Cond) (rn rd rm : Reg)
  /-- STRH: R423. -/
  | strh (c : Cond) (ix : Index3) (up : Bool) (rn rd : Reg) (off : Offset3)
  /-- STRT: R424. -/
  | strt (c : Cond) (up : Bool) (rn rd : Reg) (off : Offset2)
  /-- SUB: R219. -/
  | sub (c : Cond) (sf : Bool) (rn rd : Reg) (op : Operand2)
  /-- SWI: R507. -/
  | swi (c : Cond) (imm : BitVec 24)
  /-- SWP: R483. -/
  | swp (c : Cond) (rn rd rm : Reg)
  /-- SWPB: R484. -/
  | swpb (c : Cond) (rn rd rm : Reg)
  /-- SXTAB: R354. -/
  | sxtab (c : Cond) (rn rd : Reg) (rot : BitVec 2) (rm : Reg)
  /-- SXTAB16: R355. -/
  | sxtab16 (c : Cond) (rn rd : Reg) (rot : BitVec 2) (rm : Reg)
  /-- SXTAH: R356. -/
  | sxtah (c : Cond) (rn rd : Reg) (rot : BitVec 2) (rm : Reg)
  /-- SXTB: R357. -/
  | sxtb (c : Cond) (rd : Reg) (rot : BitVec 2) (rm : Reg)
  /-- SXTB16: R358. -/
  | sxtb16 (c : Cond) (rd : Reg) (rot : BitVec 2) (rm : Reg)
  /-- SXTH: R359. -/
  | sxth (c : Cond) (rd : Reg) (rot : BitVec 2) (rm : Reg)
  /-- TEQ: R220. -/
  | teq (c : Cond) (rn : Reg) (op : Operand2)
  /-- TST: R221. -/
  | tst (c : Cond) (rn : Reg) (op : Operand2)
  /-- UADD16: R305. -/
  | uadd16 (c : Cond) (rn rd rm : Reg)
  /-- UADD8: R306. -/
  | uadd8 (c : Cond) (rn rd rm : Reg)
  /-- UADDSUBX: R307. -/
  | uaddsubx (c : Cond) (rn rd rm : Reg)
  /-- UHADD16: R308. -/
  | uhadd16 (c : Cond) (rn rd rm : Reg)
  /-- UHADD8: R309. -/
  | uhadd8 (c : Cond) (rn rd rm : Reg)
  /-- UHADDSUBX: R310. -/
  | uhaddsubx (c : Cond) (rn rd rm : Reg)
  /-- UHSUB16: R311. -/
  | uhsub16 (c : Cond) (rn rd rm : Reg)
  /-- UHSUB8: R312. -/
  | uhsub8 (c : Cond) (rn rd rm : Reg)
  /-- UHSUBADDX: R313. -/
  | uhsubaddx (c : Cond) (rn rd rm : Reg)
  /-- UMAAL: R263. -/
  | umaal (c : Cond) (rdHi rdLo rs rm : Reg)
  /-- UMLAL: R264. -/
  | umlal (c : Cond) (sf : Bool) (rdHi rdLo rs rm : Reg)
  /-- UMULL: R265. -/
  | umull (c : Cond) (sf : Bool) (rdHi rdLo rs rm : Reg)
  /-- UQADD16: R314. -/
  | uqadd16 (c : Cond) (rn rd rm : Reg)
  /-- UQADD8: R315. -/
  | uqadd8 (c : Cond) (rn rd rm : Reg)
  /-- UQADDSUBX: R316. -/
  | uqaddsubx (c : Cond) (rn rd rm : Reg)
  /-- UQSUB16: R317. -/
  | uqsub16 (c : Cond) (rn rd rm : Reg)
  /-- UQSUB8: R318. -/
  | uqsub8 (c : Cond) (rn rd rm : Reg)
  /-- UQSUBADDX: R319. -/
  | uqsubaddx (c : Cond) (rn rd rm : Reg)
  /-- USAD8: R320. -/
  | usad8 (c : Cond) (rd rs rm : Reg)
  /-- USADA8: R321. -/
  | usada8 (c : Cond) (rd rn rs rm : Reg)
  /-- USAT: R360. -/
  | usat (c : Cond) (sat : BitVec 5) (rd : Reg) (amount : BitVec 5) (asr : Bool) (rm : Reg)
  /-- USAT16: R361. -/
  | usat16 (c : Cond) (sat : BitVec 4) (rd rm : Reg)
  /-- USUB16: R322. -/
  | usub16 (c : Cond) (rn rd rm : Reg)
  /-- USUB8: R323. -/
  | usub8 (c : Cond) (rn rd rm : Reg)
  /-- USUBADDX: R324. -/
  | usubaddx (c : Cond) (rn rd rm : Reg)
  /-- UXTAB: R362. -/
  | uxtab (c : Cond) (rn rd : Reg) (rot : BitVec 2) (rm : Reg)
  /-- UXTAB16: R363. -/
  | uxtab16 (c : Cond) (rn rd : Reg) (rot : BitVec 2) (rm : Reg)
  /-- UXTAH: R364. -/
  | uxtah (c : Cond) (rn rd : Reg) (rot : BitVec 2) (rm : Reg)
  /-- UXTB: R365. -/
  | uxtb (c : Cond) (rd : Reg) (rot : BitVec 2) (rm : Reg)
  /-- UXTB16: R366. -/
  | uxtb16 (c : Cond) (rd : Reg) (rot : BitVec 2) (rm : Reg)
  /-- UXTH: R367. -/
  | uxth (c : Cond) (rd : Reg) (rot : BitVec 2) (rm : Reg)
  deriving DecidableEq, Repr

end Sys2Proof
end

