-- ==== Sys2Proof/WellFormed.lean ====
section
/-! DEFINITION. WellFormed.lean: which terms of `Instr` are the reading of a word. The types already bound every field;
what is left are the forms the opcode table gives to another, narrower row (R191). -/

namespace Sys2Proof

/-- Whether the operand is an unshifted register, the form MOV shares with CPY (R199 (a)). -/
def Operand2.isPlainRegister : Operand2 → Bool
  | .shiftImm amount .lsl _ => amount == 0
  | _ => false

/-- No field of `i` selects another row of the opcode table at version `a` (R191): MOV with S = 0 and an unshifted
register is CPY at ARMv6; `rn` = 0b1111 turns SMLAD, SMLSD, SMMLA, USADA8 and the six extend-and-add instructions into
SMUAD, SMUSD, SMMUL, USAD8 and the six plain extends. -/
def Instr.WellFormed (a : Arch) : Instr → Bool
  | .mov _ sf _ op => !(a == .v6 && !sf && op.isPlainRegister)
  | .smlad _ _ rn _ _ _ => rn != 15
  | .smlsd _ _ rn _ _ _ => rn != 15
  | .smmla _ _ rn _ _ _ => rn != 15
  | .usada8 _ _ rn _ _ => rn != 15
  | .sxtab _ rn _ _ _ => rn != 15
  | .sxtab16 _ rn _ _ _ => rn != 15
  | .sxtah _ rn _ _ _ => rn != 15
  | .uxtab _ rn _ _ _ => rn != 15
  | .uxtab16 _ rn _ _ _ => rn != 15
  | .uxtah _ rn _ _ _ => rn != 15
  | .adc .. => true
  | .add .. => true
  | .and .. => true
  | .b .. => true
  | .bic .. => true
  | .bkpt .. => true
  | .bl .. => true
  | .blx1 .. => true
  | .blx2 .. => true
  | .bx .. => true
  | .bxj .. => true
  | .cdp .. => true
  | .cdp2 .. => true
  | .clz .. => true
  | .cmn .. => true
  | .cmp .. => true
  | .cps .. => true
  | .cpy .. => true
  | .eor .. => true
  | .ldc .. => true
  | .ldc2 .. => true
  | .ldm1 .. => true
  | .ldm2 .. => true
  | .ldm3 .. => true
  | .ldr .. => true
  | .ldrb .. => true
  | .ldrbt .. => true
  | .ldrd .. => true
  | .ldrex .. => true
  | .ldrh .. => true
  | .ldrsb .. => true
  | .ldrsh .. => true
  | .ldrt .. => true
  | .mcr .. => true
  | .mcr2 .. => true
  | .mcrr .. => true
  | .mcrr2 .. => true
  | .mla .. => true
  | .mrc .. => true
  | .mrc2 .. => true
  | .mrrc .. => true
  | .mrrc2 .. => true
  | .mrs .. => true
  | .msrImm .. => true
  | .msrReg .. => true
  | .mul .. => true
  | .mvn .. => true
  | .orr .. => true
  | .pkhbt .. => true
  | .pkhtb .. => true
  | .pld .. => true
  | .qadd .. => true
  | .qadd16 .. => true
  | .qadd8 .. => true
  | .qaddsubx .. => true
  | .qdadd .. => true
  | .qdsub .. => true
  | .qsub .. => true
  | .qsub16 .. => true
  | .qsub8 .. => true
  | .qsubaddx .. => true
  | .rev .. => true
  | .rev16 .. => true
  | .revsh .. => true
  | .rfe .. => true
  | .rsb .. => true
  | .rsc .. => true
  | .sadd16 .. => true
  | .sadd8 .. => true
  | .saddsubx .. => true
  | .sbc .. => true
  | .sel .. => true
  | .setend .. => true
  | .shadd16 .. => true
  | .shadd8 .. => true
  | .shaddsubx .. => true
  | .shsub16 .. => true
  | .shsub8 .. => true
  | .shsubaddx .. => true
  | .smlaxy .. => true
  | .smlal .. => true
  | .smlalxy .. => true
  | .smlald .. => true
  | .smlawy .. => true
  | .smlsld .. => true
  | .smmls .. => true
  | .smmul .. => true
  | .smuad .. => true
  | .smulxy .. => true
  | .smull .. => true
  | .smulwy .. => true
  | .smusd .. => true
  | .srs .. => true
  | .ssat .. => true
  | .ssat16 .. => true
  | .ssub16 .. => true
  | .ssub8 .. => true
  | .ssubaddx .. => true
  | .stc .. => true
  | .stc2 .. => true
  | .stm1 .. => true
  | .stm2 .. => true
  | .str .. => true
  | .strb .. => true
  | .strbt .. => true
  | .strd .. => true
  | .strex .. => true
  | .strh .. => true
  | .strt .. => true
  | .sub .. => true
  | .swi .. => true
  | .swp .. => true
  | .swpb .. => true
  | .sxtb .. => true
  | .sxtb16 .. => true
  | .sxth .. => true
  | .teq .. => true
  | .tst .. => true
  | .uadd16 .. => true
  | .uadd8 .. => true
  | .uaddsubx .. => true
  | .uhadd16 .. => true
  | .uhadd8 .. => true
  | .uhaddsubx .. => true
  | .uhsub16 .. => true
  | .uhsub8 .. => true
  | .uhsubaddx .. => true
  | .umaal .. => true
  | .umlal .. => true
  | .umull .. => true
  | .uqadd16 .. => true
  | .uqadd8 .. => true
  | .uqaddsubx .. => true
  | .uqsub16 .. => true
  | .uqsub8 .. => true
  | .uqsubaddx .. => true
  | .usad8 .. => true
  | .usat .. => true
  | .usat16 .. => true
  | .usub16 .. => true
  | .usub8 .. => true
  | .usubaddx .. => true
  | .uxtb .. => true
  | .uxtb16 .. => true
  | .uxth .. => true

end Sys2Proof
end

