-- ==== Sys2Proof/Decode.lean ====
section
/-! DEFINITION. Decode.lean: from a word to an instruction and back. A word is first cut into `Fields` (30_encoding R141);
`decodeFields` follows the opcode map of R190 on the control bits, and `encodeFields` writes the patterns of R142. -/

namespace Sys2Proof

/-! ### Architecture versions -/

/-- "Version 5 and above" (R196). -/
def Arch.atLeastV5 (a : Arch) : Bool := !(a == .v4 || a == .v4T)

/-- "5TE and above", ARMv5TExP included (R196). -/
def Arch.isE (a : Arch) : Bool := a == .v5TE || a == .v5TExP || a == .v5TEJ || a == .v6

/-- The table of R196: whether the instruction exists at version `a`. -/
def Instr.existsIn (a : Arch) : Instr → Bool
  | .adc .. => true
  | .add .. => true
  | .and .. => true
  | .b .. => true
  | .bic .. => true
  | .bl .. => true
  | .cdp .. => true
  | .cmn .. => true
  | .cmp .. => true
  | .eor .. => true
  | .ldc .. => true
  | .ldm1 .. => true
  | .ldm2 .. => true
  | .ldm3 .. => true
  | .ldr .. => true
  | .ldrb .. => true
  | .ldrbt .. => true
  | .ldrh .. => true
  | .ldrsb .. => true
  | .ldrsh .. => true
  | .ldrt .. => true
  | .mcr .. => true
  | .mla .. => true
  | .mov .. => true
  | .mrc .. => true
  | .mrs .. => true
  | .msrImm .. => true
  | .msrReg .. => true
  | .mul .. => true
  | .mvn .. => true
  | .orr .. => true
  | .rsb .. => true
  | .rsc .. => true
  | .sbc .. => true
  | .smlal .. => true
  | .smull .. => true
  | .stc .. => true
  | .stm1 .. => true
  | .stm2 .. => true
  | .str .. => true
  | .strb .. => true
  | .strbt .. => true
  | .strh .. => true
  | .strt .. => true
  | .sub .. => true
  | .swi .. => true
  | .swp .. => true
  | .swpb .. => true
  | .teq .. => true
  | .tst .. => true
  | .umlal .. => true
  | .umull .. => true
  | .bkpt .. => a.atLeastV5
  | .blx1 .. => a.atLeastV5
  | .blx2 .. => a.atLeastV5
  | .cdp2 .. => a.atLeastV5
  | .clz .. => a.atLeastV5
  | .ldc2 .. => a.atLeastV5
  | .mcr2 .. => a.atLeastV5
  | .mrc2 .. => a.atLeastV5
  | .stc2 .. => a.atLeastV5
  | .bx .. => a != .v4
  | .bxj .. => a == .v5TEJ || a == .v6
  | .cps .. => a == .v6
  | .cpy .. => a == .v6
  | .ldrex .. => a == .v6
  | .mcrr2 .. => a == .v6
  | .mrrc2 .. => a == .v6
  | .pkhbt .. => a == .v6
  | .pkhtb .. => a == .v6
  | .qadd16 .. => a == .v6
  | .qadd8 .. => a == .v6
  | .qaddsubx .. => a == .v6
  | .qsub16 .. => a == .v6
  | .qsub8 .. => a == .v6
  | .qsubaddx .. => a == .v6
  | .rev .. => a == .v6
  | .rev16 .. => a == .v6
  | .revsh .. => a == .v6
  | .rfe .. => a == .v6
  | .sadd16 .. => a == .v6
  | .sadd8 .. => a == .v6
  | .saddsubx .. => a == .v6
  | .sel .. => a == .v6
  | .setend .. => a == .v6
  | .shadd16 .. => a == .v6
  | .shadd8 .. => a == .v6
  | .shaddsubx .. => a == .v6
  | .shsub16 .. => a == .v6
  | .shsub8 .. => a == .v6
  | .shsubaddx .. => a == .v6
  | .smlad .. => a == .v6
  | .smlald .. => a == .v6
  | .smlsd .. => a == .v6
  | .smlsld .. => a == .v6
  | .smmla .. => a == .v6
  | .smmls .. => a == .v6
  | .smmul .. => a == .v6
  | .smuad .. => a == .v6
  | .smusd .. => a == .v6
  | .srs .. => a == .v6
  | .ssat .. => a == .v6
  | .ssat16 .. => a == .v6
  | .ssub16 .. => a == .v6
  | .ssub8 .. => a == .v6
  | .ssubaddx .. => a == .v6
  | .strex .. => a == .v6
  | .sxtab .. => a == .v6
  | .sxtab16 .. => a == .v6
  | .sxtah .. => a == .v6
  | .sxtb .. => a == .v6
  | .sxtb16 .. => a == .v6
  | .sxth .. => a == .v6
  | .uadd16 .. => a == .v6
  | .uadd8 .. => a == .v6
  | .uaddsubx .. => a == .v6
  | .uhadd16 .. => a == .v6
  | .uhadd8 .. => a == .v6
  | .uhaddsubx .. => a == .v6
  | .uhsub16 .. => a == .v6
  | .uhsub8 .. => a == .v6
  | .uhsubaddx .. => a == .v6
  | .umaal .. => a == .v6
  | .uqadd16 .. => a == .v6
  | .uqadd8 .. => a == .v6
  | .uqaddsubx .. => a == .v6
  | .uqsub16 .. => a == .v6
  | .uqsub8 .. => a == .v6
  | .uqsubaddx .. => a == .v6
  | .usad8 .. => a == .v6
  | .usada8 .. => a == .v6
  | .usat .. => a == .v6
  | .usat16 .. => a == .v6
  | .usub16 .. => a == .v6
  | .usub8 .. => a == .v6
  | .usubaddx .. => a == .v6
  | .uxtab .. => a == .v6
  | .uxtab16 .. => a == .v6
  | .uxtah .. => a == .v6
  | .uxtb .. => a == .v6
  | .uxtb16 .. => a == .v6
  | .uxth .. => a == .v6
  | .ldrd .. => a.isE && a != .v5TExP
  | .mcrr .. => a.isE && a != .v5TExP
  | .mrrc .. => a.isE && a != .v5TExP
  | .pld .. => a.isE && a != .v5TExP
  | .strd .. => a.isE && a != .v5TExP
  | .qadd .. => a.isE
  | .qdadd .. => a.isE
  | .qdsub .. => a.isE
  | .qsub .. => a.isE
  | .smlaxy .. => a.isE
  | .smlalxy .. => a.isE
  | .smlawy .. => a.isE
  | .smulxy .. => a.isE
  | .smulwy .. => a.isE

/-! ### Fields of a word -/

/-- Four bits as a nibble, the most significant first. -/
def nib (a b c d : Bool) : BitVec 4 :=
  BitVec.ofBool a ++ BitVec.ofBool b ++ BitVec.ofBool c ++ BitVec.ofBool d

/-- Nibble `k` of a bit vector, counted from the least significant. -/
def nibble (x : BitVec w) (k : Nat) : BitVec 4 := x.extractLsb' (4 * k) 4

/-- The upper four bits of a 5-bit field; in a word they are bits 11:8, and the lowest bit is bit 7. -/
def hi4 (x : BitVec 5) : BitVec 4 := x.extractLsb' 1 4

/-- A word cut at the boundaries most encodings share (R141): `cond` 31:28, the control bits 27:20 and 7:4 one by one,
and the nibbles 19:16, 15:12, 11:8 and 3:0 under the names of the registers they most often hold. -/
structure Fields where
  cond : BitVec 4
  b27 : Bool
  b26 : Bool
  b25 : Bool
  b24 : Bool
  b23 : Bool
  b22 : Bool
  b21 : Bool
  b20 : Bool
  rn : BitVec 4
  rd : BitVec 4
  rs : BitVec 4
  b7 : Bool
  b6 : Bool
  b5 : Bool
  b4 : Bool
  rm : BitVec 4
  deriving DecidableEq, Repr

/-- Cuts a word into its fields. -/
def splitWord (w : Word) : Fields where
  cond := nibble w 7
  b27 := w.getLsbD 27
  b26 := w.getLsbD 26
  b25 := w.getLsbD 25
  b24 := w.getLsbD 24
  b23 := w.getLsbD 23
  b22 := w.getLsbD 22
  b21 := w.getLsbD 21
  b20 := w.getLsbD 20
  rn := nibble w 4
  rd := nibble w 3
  rs := nibble w 2
  b7 := w.getLsbD 7
  b6 := w.getLsbD 6
  b5 := w.getLsbD 5
  b4 := w.getLsbD 4
  rm := nibble w 0

/-- Puts a word together from its fields. -/
def joinWord (f : Fields) : Word :=
  f.cond ++ nib f.b27 f.b26 f.b25 f.b24 ++ nib f.b23 f.b22 f.b21 f.b20 ++ f.rn ++ f.rd ++ f.rs ++
    nib f.b7 f.b6 f.b5 f.b4 ++ f.rm

/-! ### Codes of the small types -/

/-- The condition field (R143). -/
def Cond.code : Cond → BitVec 4
  | .eq => 0 | .ne => 1 | .cs => 2 | .cc => 3 | .mi => 4 | .pl => 5 | .vs => 6 | .vc => 7
  | .hi => 8 | .ls => 9 | .ge => 10 | .lt => 11 | .gt => 12 | .le => 13 | .al => 14

/-- The condition a field names; 0b1111 names none (R144). -/
def Cond.ofCode (x : BitVec 4) : Option Cond :=
  match x.toNat with
  | 0 => some .eq | 1 => some .ne | 2 => some .cs | 3 => some .cc
  | 4 => some .mi | 5 => some .pl | 6 => some .vs | 7 => some .vc
  | 8 => some .hi | 9 => some .ls | 10 => some .ge | 11 => some .lt
  | 12 => some .gt | 13 => some .le | 14 => some .al
  | _ => none

/-- Bits 6 and 5 of a shift (R153 to R159). -/
def ShiftType.b6 : ShiftType → Bool
  | .lsl => false | .lsr => false | .asr => true | .ror => true

def ShiftType.b5 : ShiftType → Bool
  | .lsl => false | .lsr => true | .asr => false | .ror => true

def ShiftType.ofBits : Bool → Bool → ShiftType
  | false, false => .lsl | false, true => .lsr | true, false => .asr | true, true => .ror

/-- The P and W bits of a Mode 2 indexing (R401). -/
def Index2.p : Index2 → Bool
  | .offset => true | .pre => true | .post => false

def Index2.w : Index2 → Bool
  | .offset => false | .pre => true | .post => false

/-- The P and W bits of a Mode 3 indexing (R405). -/
def Index3.p : Index3 → Bool
  | .offset => true | .pre => true | .post => false | .postW => false

def Index3.w : Index3 → Bool
  | .offset => false | .pre => true | .post => false | .postW => true

def Index3.ofBits : Bool → Bool → Index3
  | true, false => .offset | true, true => .pre | false, false => .post | false, true => .postW

/-- The P and U bits of Addressing Mode 4 (R450). -/
def Mode4.p : Mode4 → Bool
  | .ia => false | .ib => true | .da => false | .db => true

def Mode4.u : Mode4 → Bool
  | .ia => true | .ib => true | .da => false | .db => false

def Mode4.ofBits : Bool → Bool → Mode4
  | false, true => .ia | true, true => .ib | false, false => .da | true, false => .db

/-- The P, U and W bits of Addressing Mode 5 (R530). -/
def Mode5.p : Mode5 → Bool
  | .offset _ => true | .pre _ => true | .post _ => false | .unindexed => false

def Mode5.u : Mode5 → Bool
  | .offset up => up | .pre up => up | .post up => up | .unindexed => true

def Mode5.w : Mode5 → Bool
  | .offset _ => false | .pre _ => true | .post _ => true | .unindexed => false

/-- The Mode 5 form of P, U, W; P = U = W = 0 is none (R530). -/
def Mode5.ofBits : Bool → Bool → Bool → Option Mode5
  | true, u, false => some (.offset u)
  | true, u, true => some (.pre u)
  | false, u, true => some (.post u)
  | false, true, false => some .unindexed
  | false, false, false => none

/-! ### Encoding -/

namespace Fields

/-- A data-processing word (R142 DP): `cond 00 I opcode S Rn Rd shifter_operand`. -/
def op2Fields (cond : BitVec 4) (o3 o2 o1 o0 sf : Bool) (rn rd : BitVec 4) : Operand2 → Fields
  | .imm rot imm =>
    mk cond false false true o3 o2 o1 o0 sf rn rd rot
      (imm.getLsbD 7) (imm.getLsbD 6) (imm.getLsbD 5) (imm.getLsbD 4) (nibble imm 0)
  | .shiftImm amount sh rm =>
    mk cond false false false o3 o2 o1 o0 sf rn rd (hi4 amount) (amount.getLsbD 0) sh.b6 sh.b5 false rm
  | .shiftReg rs sh rm =>
    mk cond false false false o3 o2 o1 o0 sf rn rd rs false sh.b6 sh.b5 true rm

/-- A word of four control bits and a 24-bit immediate (R142 BRANCH, SWI). -/
def imm24Fields (cond : BitVec 4) (b27 b26 b25 b24 : Bool) (imm : BitVec 24) : Fields :=
  mk cond b27 b26 b25 b24 (imm.getLsbD 23) (imm.getLsbD 22) (imm.getLsbD 21) (imm.getLsbD 20)
    (nibble imm 4) (nibble imm 3) (nibble imm 2)
    (imm.getLsbD 7) (imm.getLsbD 6) (imm.getLsbD 5) (imm.getLsbD 4) (nibble imm 0)

/-- A Mode 2 word (R142 LS-word/byte): `cond 01 I P U B W L Rn Rd addr_mode`. -/
def mode2Fields (cond : BitVec 4) (p u b w l : Bool) (rn rd : BitVec 4) : Offset2 → Fields
  | .imm off =>
    mk cond false true false p u b w l rn rd (nibble off 2)
      (off.getLsbD 7) (off.getLsbD 6) (off.getLsbD 5) (off.getLsbD 4) (nibble off 0)
  | .reg amount sh rm =>
    mk cond false true true p u b w l rn rd (hi4 amount) (amount.getLsbD 0) sh.b6 sh.b5 false rm

/-- A Mode 3 word (R142 LS-extra): `cond 000 P U I W L Rn Rd addr_hi 1 S H 1 addr_lo`. -/
def mode3Fields (cond : BitVec 4) (ix : Index3) (u l sBit hBit : Bool) (rn rd : BitVec 4) : Offset3 → Fields
  | .imm off => mk cond false false false ix.p u true ix.w l rn rd (nibble off 1) true sBit hBit true (nibble off 0)
  | .reg rm => mk cond false false false ix.p u false ix.w l rn rd 0 true sBit hBit true rm

/-- A Mode 4 word (R142 LSM): `cond 100 P U S W L Rn register_list`. -/
def listFields (cond : BitVec 4) (am : Mode4) (sBit w l : Bool) (rn : BitVec 4) (list : BitVec 16) : Fields :=
  mk cond true false false am.p am.u sBit w l rn (nibble list 3) (nibble list 2)
    (list.getLsbD 7) (list.getLsbD 6) (list.getLsbD 5) (list.getLsbD 4) (nibble list 0)

/-- A Mode 5 word (R142 CP-ls): `cond 110 P U N W L Rn CRd cp_num offset_8`. -/
def mode5Fields (cond : BitVec 4) (am : Mode5) (n l : Bool) (rn crd cp : BitVec 4) (off : BitVec 8) : Fields :=
  mk cond true true false am.p am.u n am.w l rn crd cp
    (off.getLsbD 7) (off.getLsbD 6) (off.getLsbD 5) (off.getLsbD 4) (nibble off 0)

end Fields

open Fields in
/-- The encoding of an instruction, from the patterns of R142. -/
def encodeFields : Instr → Fields
  | .adc c sf rn rd op => op2Fields c.code false true false true sf rn rd op
  | .add c sf rn rd op => op2Fields c.code false true false false sf rn rd op
  | .and c sf rn rd op => op2Fields c.code false false false false sf rn rd op
  | .b c imm => imm24Fields c.code true false true false imm
  | .bic c sf rn rd op => op2Fields c.code true true true false sf rn rd op
  | .bkpt imm => mk 14 false false false true false false true false (nibble imm 3) (nibble imm 2) (nibble imm 1) false true true true (nibble imm 0)
  | .bl c imm => imm24Fields c.code true false true true imm
  | .blx1 h imm => imm24Fields 15 true false true h imm
  | .blx2 c rm => mk c.code false false false true false false true false 15 15 15 false false true true rm
  | .bx c rm => mk c.code false false false true false false true false 15 15 15 false false false true rm
  | .bxj c rm => mk c.code false false false true false false true false 15 15 15 false false true false rm
  | .cdp c op1 crn crd cp op2 crm => mk c.code true true true false (op1.getLsbD 3) (op1.getLsbD 2) (op1.getLsbD 1) (op1.getLsbD 0) crn crd cp (op2.getLsbD 2) (op2.getLsbD 1) (op2.getLsbD 0) false crm
  | .cdp2 op1 crn crd cp op2 crm => mk 15 true true true false (op1.getLsbD 3) (op1.getLsbD 2) (op1.getLsbD 1) (op1.getLsbD 0) crn crd cp (op2.getLsbD 2) (op2.getLsbD 1) (op2.getLsbD 0) false crm
  | .clz c rd rm => mk c.code false false false true false true true false 15 rd 15 false false false true rm
  | .cmn c rn op => op2Fields c.code true false true true true rn 0 op
  | .cmp c rn op => op2Fields c.code true false true false true rn 0 op
  | .cps imod mmod a ib f mode => mk 15 false false false true false false false false (nib (imod.getLsbD 1) (imod.getLsbD 0) mmod false) 0 (nib false false false a) ib f false (mode.getLsbD 4) (mode.extractLsb' 0 4)
  | .cpy c rd rm => mk c.code false false false true true false true false 0 rd 0 false false false false rm
  | .eor c sf rn rd op => op2Fields c.code false false false true sf rn rd op
  | .ldc c am long rn crd cp off => mode5Fields c.code am long true rn crd cp off
  | .ldc2 am long rn crd cp off => mode5Fields 15 am long true rn crd cp off
  | .ldm1 c am wb rn list => listFields c.code am false wb true rn list
  | .ldm2 c am rn list => listFields c.code am true false true rn (BitVec.ofBool false ++ list)
  | .ldm3 c am wb rn list => listFields c.code am true wb true rn (BitVec.ofBool true ++ list)
  | .ldr c ix up rn rd off => mode2Fields c.code ix.p up false ix.w true rn rd off
  | .ldrb c ix up rn rd off => mode2Fields c.code ix.p up true ix.w true rn rd off
  | .ldrbt c up rn rd off => mode2Fields c.code false up true true true rn rd off
  | .ldrd c ix up rn rd off => mode3Fields c.code ix up false true false rn rd off
  | .ldrex c rn rd => mk c.code false false false true true false false true rn rd 15 true false false true 15
  | .ldrh c ix up rn rd off => mode3Fields c.code ix up true false true rn rd off
  | .ldrsb c ix up rn rd off => mode3Fields c.code ix up true true false rn rd off
  | .ldrsh c ix up rn rd off => mode3Fields c.code ix up true true true rn rd off
  | .ldrt c up rn rd off => mode2Fields c.code false up false true true rn rd off
  | .mcr c op1 crn rd cp op2 crm => mk c.code true true true false (op1.getLsbD 2) (op1.getLsbD 1) (op1.getLsbD 0) false crn rd cp (op2.getLsbD 2) (op2.getLsbD 1) (op2.getLsbD 0) true crm
  | .mcr2 op1 crn rd cp op2 crm => mk 15 true true true false (op1.getLsbD 2) (op1.getLsbD 1) (op1.getLsbD 0) false crn rd cp (op2.getLsbD 2) (op2.getLsbD 1) (op2.getLsbD 0) true crm
  | .mcrr c rn rd cp opc crm => mk c.code true true false false false true false false rn rd cp (opc.getLsbD 3) (opc.getLsbD 2) (opc.getLsbD 1) (opc.getLsbD 0) crm
  | .mcrr2 rn rd cp opc crm => mk 15 true true false false false true false false rn rd cp (opc.getLsbD 3) (opc.getLsbD 2) (opc.getLsbD 1) (opc.getLsbD 0) crm
  | .mla c sf rd rn rs rm => mk c.code false false false false false false true sf rd rn rs true false false true rm
  | .mov c sf rd op => op2Fields c.code true true false true sf 0 rd op
  | .mrc c op1 crn rd cp op2 crm => mk c.code true true true false (op1.getLsbD 2) (op1.getLsbD 1) (op1.getLsbD 0) true crn rd cp (op2.getLsbD 2) (op2.getLsbD 1) (op2.getLsbD 0) true crm
  | .mrc2 op1 crn rd cp op2 crm => mk 15 true true true false (op1.getLsbD 2) (op1.getLsbD 1) (op1.getLsbD 0) true crn rd cp (op2.getLsbD 2) (op2.getLsbD 1) (op2.getLsbD 0) true crm
  | .mrrc c rn rd cp opc crm => mk c.code true true false false false true false true rn rd cp (opc.getLsbD 3) (opc.getLsbD 2) (opc.getLsbD 1) (opc.getLsbD 0) crm
  | .mrrc2 rn rd cp opc crm => mk 15 true true false false false true false true rn rd cp (opc.getLsbD 3) (opc.getLsbD 2) (opc.getLsbD 1) (opc.getLsbD 0) crm
  | .mrs c r rd => mk c.code false false false true false r false false 15 rd 0 false false false false 0
  | .msrImm c r mask rot imm => mk c.code false false true true false r true false mask 15 rot (imm.getLsbD 7) (imm.getLsbD 6) (imm.getLsbD 5) (imm.getLsbD 4) (nibble imm 0)
  | .msrReg c r mask rm => mk c.code false false false true false r true false mask 15 0 false false false false rm
  | .mul c sf rd rs rm => mk c.code false false false false false false false sf rd 0 rs true false false true rm
  | .mvn c sf rd op => op2Fields c.code true true true true sf 0 rd op
  | .orr c sf rn rd op => op2Fields c.code true true false false sf rn rd op
  | .pkhbt c rn rd sh rm => mk c.code false true true false true false false false rn rd (hi4 sh) (sh.getLsbD 0) false false true rm
  | .pkhtb c rn rd sh rm => mk c.code false true true false true false false false rn rd (hi4 sh) (sh.getLsbD 0) true false true rm
  | .pld up rn off => mode2Fields 15 true up true false true rn 15 off
  | .qadd c rn rd rm => mk c.code false false false true false false false false rn rd 0 false true false true rm
  | .qadd16 c rn rd rm => mk c.code false true true false false false true false rn rd 15 false false false true rm
  | .qadd8 c rn rd rm => mk c.code false true true false false false true false rn rd 15 true false false true rm
  | .qaddsubx c rn rd rm => mk c.code false true true false false false true false rn rd 15 false false true true rm
  | .qdadd c rn rd rm => mk c.code false false false true false true false false rn rd 0 false true false true rm
  | .qdsub c rn rd rm => mk c.code false false false true false true true false rn rd 0 false true false true rm
  | .qsub c rn rd rm => mk c.code false false false true false false true false rn rd 0 false true false true rm
  | .qsub16 c rn rd rm => mk c.code false true true false false false true false rn rd 15 false true true true rm
  | .qsub8 c rn rd rm => mk c.code false true true false false false true false rn rd 15 true true true true rm
  | .qsubaddx c rn rd rm => mk c.code false true true false false false true false rn rd 15 false true false true rm
  | .rev c rd rm => mk c.code false true true false true false true true 15 rd 15 false false true true rm
  | .rev16 c rd rm => mk c.code false true true false true false true true 15 rd 15 true false true true rm
  | .revsh c rd rm => mk c.code false true true false true true true true 15 rd 15 true false true true rm
  | .rfe am wb rn => mk 15 true false false am.p am.u false wb true rn 0 10 false false false false 0
  | .rsb c sf rn rd op => op2Fields c.code false false true true sf rn rd op
  | .rsc c sf rn rd op => op2Fields c.code false true true true sf rn rd op
  | .sadd16 c rn rd rm => mk c.code false true true false false false false true rn rd 15 false false false true rm
  | .sadd8 c rn rd rm => mk c.code false true true false false false false true rn rd 15 true false false true rm
  | .saddsubx c rn rd rm => mk c.code false true true false false false false true rn rd 15 false false true true rm
  | .sbc c sf rn rd op => op2Fields c.code false true true false sf rn rd op
  | .sel c rn rd rm => mk c.code false true true false true false false false rn rd 15 true false true true rm
  | .setend e => mk 15 false false false true false false false false 1 0 (nib false false e false) false false false false 0
  | .shadd16 c rn rd rm => mk c.code false true true false false false true true rn rd 15 false false false true rm
  | .shadd8 c rn rd rm => mk c.code false true true false false false true true rn rd 15 true false false true rm
  | .shaddsubx c rn rd rm => mk c.code false true true false false false true true rn rd 15 false false true true rm
  | .shsub16 c rn rd rm => mk c.code false true true false false false true true rn rd 15 false true true true rm
  | .shsub8 c rn rd rm => mk c.code false true true false false false true true rn rd 15 true true true true rm
  | .shsubaddx c rn rd rm => mk c.code false true true false false false true true rn rd 15 false true false true rm
  | .smlaxy c rd rn rs y x rm => mk c.code false false false true false false false false rd rn rs true y x false rm
  | .smlad c rd rn rs x rm => mk c.code false true true true false false false false rd rn rs false false x true rm
  | .smlal c sf rdHi rdLo rs rm => mk c.code false false false false true true true sf rdHi rdLo rs true false false true rm
  | .smlalxy c rdHi rdLo rs y x rm => mk c.code false false false true false true false false rdHi rdLo rs true y x false rm
  | .smlald c rdHi rdLo rs x rm => mk c.code false true true true false true false false rdHi rdLo rs false false x true rm
  | .smlawy c rd rn rs y rm => mk c.code false false false true false false true false rd rn rs true y false false rm
  | .smlsd c rd rn rs x rm => mk c.code false true true true false false false false rd rn rs false true x true rm
  | .smlsld c rdHi rdLo rs x rm => mk c.code false true true true false true false false rdHi rdLo rs false true x true rm
  | .smmla c rd rn rs r rm => mk c.code false true true true false true false true rd rn rs false false r true rm
  | .smmls c rd rn rs r rm => mk c.code false true true true false true false true rd rn rs true true r true rm
  | .smmul c rd rs r rm => mk c.code false true true true false true false true rd 15 rs false false r true rm
  | .smuad c rd rs x rm => mk c.code false true true true false false false false rd 15 rs false false x true rm
  | .smulxy c rd rs y x rm => mk c.code false false false true false true true false rd 0 rs true y x false rm
  | .smull c sf rdHi rdLo rs rm => mk c.code false false false false true true false sf rdHi rdLo rs true false false true rm
  | .smulwy c rd rs y rm => mk c.code false false false true false false true false rd 0 rs true y true false rm
  | .smusd c rd rs x rm => mk c.code false true true true false false false false rd 15 rs false true x true rm
  | .srs am wb mode => mk 15 true false false am.p am.u true wb false 13 0 5 false false false (mode.getLsbD 4) (mode.extractLsb' 0 4)
  | .ssat c sat rd amount asr rm => mk c.code false true true false true false true (sat.getLsbD 4) (sat.extractLsb' 0 4) rd (hi4 amount) (amount.getLsbD 0) asr false true rm
  | .ssat16 c sat rd rm => mk c.code false true true false true false true false sat rd 15 false false true true rm
  | .ssub16 c rn rd rm => mk c.code false true true false false false false true rn rd 15 false true true true rm
  | .ssub8 c rn rd rm => mk c.code false true true false false false false true rn rd 15 true true true true rm
  | .ssubaddx c rn rd rm => mk c.code false true true false false false false true rn rd 15 false true false true rm
  | .stc c am long rn crd cp off => mode5Fields c.code am long false rn crd cp off
  | .stc2 am long rn crd cp off => mode5Fields 15 am long false rn crd cp off
  | .stm1 c am wb rn list => listFields c.code am false wb false rn list
  | .stm2 c am rn list => listFields c.code am true false false rn list
  | .str c ix up rn rd off => mode2Fields c.code ix.p up false ix.w false rn rd off
  | .strb c ix up rn rd off => mode2Fields c.code ix.p up true ix.w false rn rd off
  | .strbt c up rn rd off => mode2Fields c.code false up true true false rn rd off
  | .strd c ix up rn rd off => mode3Fields c.code ix up false true true rn rd off
  | .strex c rn rd rm => mk c.code false false false true true false false false rn rd 15 true false false true rm
  | .strh c ix up rn rd off => mode3Fields c.code ix up false false true rn rd off
  | .strt c up rn rd off => mode2Fields c.code false up false true false rn rd off
  | .sub c sf rn rd op => op2Fields c.code false false true false sf rn rd op
  | .swi c imm => imm24Fields c.code true true true true imm
  | .swp c rn rd rm => mk c.code false false false true false false false false rn rd 0 true false false true rm
  | .swpb c rn rd rm => mk c.code false false false true false true false false rn rd 0 true false false true rm
  | .sxtab c rn rd rot rm => mk c.code false true true false true false true false rn rd (nib (rot.getLsbD 1) (rot.getLsbD 0) false false) false true true true rm
  | .sxtab16 c rn rd rot rm => mk c.code false true true false true false false false rn rd (nib (rot.getLsbD 1) (rot.getLsbD 0) false false) false true true true rm
  | .sxtah c rn rd rot rm => mk c.code false true true false true false true true rn rd (nib (rot.getLsbD 1) (rot.getLsbD 0) false false) false true true true rm
  | .sxtb c rd rot rm => mk c.code false true true false true false true false 15 rd (nib (rot.getLsbD 1) (rot.getLsbD 0) false false) false true true true rm
  | .sxtb16 c rd rot rm => mk c.code false true true false true false false false 15 rd (nib (rot.getLsbD 1) (rot.getLsbD 0) false false) false true true true rm
  | .sxth c rd rot rm => mk c.code false true true false true false true true 15 rd (nib (rot.getLsbD 1) (rot.getLsbD 0) false false) false true true true rm
  | .teq c rn op => op2Fields c.code true false false true true rn 0 op
  | .tst c rn op => op2Fields c.code true false false false true rn 0 op
  | .uadd16 c rn rd rm => mk c.code false true true false false true false true rn rd 15 false false false true rm
  | .uadd8 c rn rd rm => mk c.code false true true false false true false true rn rd 15 true false false true rm
  | .uaddsubx c rn rd rm => mk c.code false true true false false true false true rn rd 15 false false true true rm
  | .uhadd16 c rn rd rm => mk c.code false true true false false true true true rn rd 15 false false false true rm
  | .uhadd8 c rn rd rm => mk c.code false true true false false true true true rn rd 15 true false false true rm
  | .uhaddsubx c rn rd rm => mk c.code false true true false false true true true rn rd 15 false false true true rm
  | .uhsub16 c rn rd rm => mk c.code false true true false false true true true rn rd 15 false true true true rm
  | .uhsub8 c rn rd rm => mk c.code false true true false false true true true rn rd 15 true true true true rm
  | .uhsubaddx c rn rd rm => mk c.code false true true false false true true true rn rd 15 false true false true rm
  | .umaal c rdHi rdLo rs rm => mk c.code false false false false false true false false rdHi rdLo rs true false false true rm
  | .umlal c sf rdHi rdLo rs rm => mk c.code false false false false true false true sf rdHi rdLo rs true false false true rm
  | .umull c sf rdHi rdLo rs rm => mk c.code false false false false true false false sf rdHi rdLo rs true false false true rm
  | .uqadd16 c rn rd rm => mk c.code false true true false false true true false rn rd 15 false false false true rm
  | .uqadd8 c rn rd rm => mk c.code false true true false false true true false rn rd 15 true false false true rm
  | .uqaddsubx c rn rd rm => mk c.code false true true false false true true false rn rd 15 false false true true rm
  | .uqsub16 c rn rd rm => mk c.code false true true false false true true false rn rd 15 false true true true rm
  | .uqsub8 c rn rd rm => mk c.code false true true false false true true false rn rd 15 true true true true rm
  | .uqsubaddx c rn rd rm => mk c.code false true true false false true true false rn rd 15 false true false true rm
  | .usad8 c rd rs rm => mk c.code false true true true true false false false rd 15 rs false false false true rm
  | .usada8 c rd rn rs rm => mk c.code false true true true true false false false rd rn rs false false false true rm
  | .usat c sat rd amount asr rm => mk c.code false true true false true true true (sat.getLsbD 4) (sat.extractLsb' 0 4) rd (hi4 amount) (amount.getLsbD 0) asr false true rm
  | .usat16 c sat rd rm => mk c.code false true true false true true true false sat rd 15 false false true true rm
  | .usub16 c rn rd rm => mk c.code false true true false false true false true rn rd 15 false true true true rm
  | .usub8 c rn rd rm => mk c.code false true true false false true false true rn rd 15 true true true true rm
  | .usubaddx c rn rd rm => mk c.code false true true false false true false true rn rd 15 false true false true rm
  | .uxtab c rn rd rot rm => mk c.code false true true false true true true false rn rd (nib (rot.getLsbD 1) (rot.getLsbD 0) false false) false true true true rm
  | .uxtab16 c rn rd rot rm => mk c.code false true true false true true false false rn rd (nib (rot.getLsbD 1) (rot.getLsbD 0) false false) false true true true rm
  | .uxtah c rn rd rot rm => mk c.code false true true false true true true true rn rd (nib (rot.getLsbD 1) (rot.getLsbD 0) false false) false true true true rm
  | .uxtb c rd rot rm => mk c.code false true true false true true true false 15 rd (nib (rot.getLsbD 1) (rot.getLsbD 0) false false) false true true true rm
  | .uxtb16 c rd rot rm => mk c.code false true true false true true false false 15 rd (nib (rot.getLsbD 1) (rot.getLsbD 0) false false) false true true true rm
  | .uxth c rd rot rm => mk c.code false true true false true true true true 15 rd (nib (rot.getLsbD 1) (rot.getLsbD 0) false false) false true true true rm

/-- The word of an instruction. -/
def encode (i : Instr) : Word := joinWord (encodeFields i)

/-! ### Decoding -/

/-- Why the decoder answers no instruction (R192). Where two cases hold, (c) is named before (b) (log entry 37). -/
inductive Reject where
  /-- Case (b): only a should-be-zero or should-be-one bit keeps the word from a row of this version: UNPREDICTABLE
  (R17). -/
  | shouldBeBits
  /-- Case (c): the row does not exist at this architecture version. -/
  | notInArch
  /-- Case (d): no row claims the word. -/
  | noInstruction
  deriving DecidableEq, Repr

/-- What a word is: an instruction, the architecturally Undefined pattern (R192 (a)), or nothing the spec defines. -/
inductive Decoded where
  | instr (i : Instr)
  | undefinedPattern (c : Cond)
  | reject (r : Reject)
  deriving DecidableEq, Repr

/-- A leaf of the opcode map: the row of `i`, when its version exists and its fixed SBZ and SBO bits hold. -/
def leaf (a : Arch) (fixed : Bool) (i : Instr) : Decoded :=
  match i.existsIn a, fixed with
  | true, true => .instr i
  | true, false => .reject .shouldBeBits
  | false, true => .reject .notInArch
  | false, false => .reject .noInstruction

namespace Fields

/-- Bits 7:4. -/
def low4 (f : Fields) : BitVec 4 := nib f.b7 f.b6 f.b5 f.b4

/-- Bits 11:7, a shift amount. -/
def amount (f : Fields) : BitVec 5 := f.rs ++ BitVec.ofBool f.b7

/-- Bits 7:0. -/
def imm8 (f : Fields) : BitVec 8 := f.low4 ++ f.rm

/-- Bits 11:0. -/
def imm12 (f : Fields) : BitVec 12 := f.rs ++ f.low4 ++ f.rm

/-- Bits 15:0. -/
def imm16 (f : Fields) : BitVec 16 := f.rd ++ f.rs ++ f.low4 ++ f.rm

/-- Bits 23:0. -/
def imm24 (f : Fields) : BitVec 24 :=
  nib f.b23 f.b22 f.b21 f.b20 ++ f.rn ++ f.rd ++ f.rs ++ f.low4 ++ f.rm

/-- Bits 20:16, the saturation width of SSAT and USAT. -/
def satImm (f : Fields) : BitVec 5 := BitVec.ofBool f.b20 ++ f.rn

/-- Bits 4:0, a mode number. -/
def modeNumber (f : Fields) : BitVec 5 := BitVec.ofBool f.b4 ++ f.rm

/-- The Mode 1 operand of a word with bit 25 given (R150); the caller has excluded bits 7 and 4 both 1. -/
def operand2 (f : Fields) : Operand2 :=
  match f.b25, f.b4 with
  | true, _ => .imm f.rs f.imm8
  | false, false => .shiftImm f.amount (ShiftType.ofBits f.b6 f.b5) f.rm
  | false, true => .shiftReg f.rs (ShiftType.ofBits f.b6 f.b5) f.rm

/-- The Mode 2 offset of a word (R401); the caller has excluded bits 25 and 4 both 1. -/
def offset2 (f : Fields) : Offset2 :=
  match f.b25 with
  | false => .imm f.imm12
  | true => .reg f.amount (ShiftType.ofBits f.b6 f.b5) f.rm

/-- The Mode 3 offset of a word (R405). -/
def offset3 (f : Fields) : Offset3 :=
  match f.b22 with
  | true => .imm (f.rs ++ f.rm)
  | false => .reg f.rm

/-- R407: in the register form of Mode 3, bits 11:8 should be zero. -/
def offset3Fixed (f : Fields) : Bool := f.b22 || f.rs == 0

end Fields

open Fields

/-- The data-processing rows (R142 DP, DP-move, DP-compare, CPY). -/
def decodeDataProcessing (a : Arch) (c : Cond) (f : Fields) : Decoded :=
  match f.b24, f.b23, f.b22, f.b21 with
  | false, false, false, false => leaf a true (.and c f.b20 f.rn f.rd f.operand2)
  | false, false, false, true => leaf a true (.eor c f.b20 f.rn f.rd f.operand2)
  | false, false, true, false => leaf a true (.sub c f.b20 f.rn f.rd f.operand2)
  | false, false, true, true => leaf a true (.rsb c f.b20 f.rn f.rd f.operand2)
  | false, true, false, false => leaf a true (.add c f.b20 f.rn f.rd f.operand2)
  | false, true, false, true => leaf a true (.adc c f.b20 f.rn f.rd f.operand2)
  | false, true, true, false => leaf a true (.sbc c f.b20 f.rn f.rd f.operand2)
  | false, true, true, true => leaf a true (.rsc c f.b20 f.rn f.rd f.operand2)
  | true, false, false, false => leaf a (f.rd == 0) (.tst c f.rn f.operand2)
  | true, false, false, true => leaf a (f.rd == 0) (.teq c f.rn f.operand2)
  | true, false, true, false => leaf a (f.rd == 0) (.cmp c f.rn f.operand2)
  | true, false, true, true => leaf a (f.rd == 0) (.cmn c f.rn f.operand2)
  | true, true, false, false => leaf a true (.orr c f.b20 f.rn f.rd f.operand2)
  | true, true, false, true =>
    if a == .v6 && !f.b20 && f.operand2.isPlainRegister then leaf a (f.rn == 0) (.cpy c f.rd f.rm)
    else leaf a (f.rn == 0) (.mov c f.b20 f.rd f.operand2)
  | true, true, true, false => leaf a true (.bic c f.b20 f.rn f.rd f.operand2)
  | true, true, true, true => leaf a (f.rn == 0) (.mvn c f.b20 f.rd f.operand2)

/-- The multiplies: bits 27:24 = 0000, bits 7:4 = 1001. -/
def decodeMultiply (a : Arch) (c : Cond) (f : Fields) : Decoded :=
  match f.b23, f.b22, f.b21 with
  | false, false, false => leaf a (f.rd == 0) (.mul c f.b20 f.rn f.rs f.rm)
  | false, false, true => leaf a true (.mla c f.b20 f.rn f.rd f.rs f.rm)
  | false, true, false => if f.b20 then .reject .noInstruction else leaf a true (.umaal c f.rn f.rd f.rs f.rm)
  | false, true, true => .reject .noInstruction
  | true, false, false => leaf a true (.umull c f.b20 f.rn f.rd f.rs f.rm)
  | true, false, true => leaf a true (.umlal c f.b20 f.rn f.rd f.rs f.rm)
  | true, true, false => leaf a true (.smull c f.b20 f.rn f.rd f.rs f.rm)
  | true, true, true => leaf a true (.smlal c f.b20 f.rn f.rd f.rs f.rm)

/-- The swaps and exclusives: bits 27:24 = 0001, bits 7:4 = 1001. -/
def decodeSync (a : Arch) (c : Cond) (f : Fields) : Decoded :=
  match f.b23, f.b22, f.b21, f.b20 with
  | false, false, false, false => leaf a (f.rs == 0) (.swp c f.rn f.rd f.rm)
  | false, true, false, false => leaf a (f.rs == 0) (.swpb c f.rn f.rd f.rm)
  | true, false, false, false => leaf a (f.rs == 15) (.strex c f.rn f.rd f.rm)
  | true, false, false, true => leaf a (f.rs == 15 && f.rm == 15) (.ldrex c f.rn f.rd)
  | _, _, _, _ => .reject .noInstruction

/-- The extra loads and stores: bits 27:25 = 000, bits 7 and 4 = 1, bits 6:5 not 00 (R405). -/
def decodeExtra (a : Arch) (c : Cond) (f : Fields) : Decoded :=
  let ix := Index3.ofBits f.b24 f.b21
  match f.b20, f.b6, f.b5 with
  | false, false, true => leaf a f.offset3Fixed (.strh c ix f.b23 f.rn f.rd f.offset3)
  | false, true, false => leaf a f.offset3Fixed (.ldrd c ix f.b23 f.rn f.rd f.offset3)
  | false, true, true => leaf a f.offset3Fixed (.strd c ix f.b23 f.rn f.rd f.offset3)
  | true, false, true => leaf a f.offset3Fixed (.ldrh c ix f.b23 f.rn f.rd f.offset3)
  | true, true, false => leaf a f.offset3Fixed (.ldrsb c ix f.b23 f.rn f.rd f.offset3)
  | true, true, true => leaf a f.offset3Fixed (.ldrsh c ix f.b23 f.rn f.rd f.offset3)
  | _, false, false => .reject .noInstruction

/-- The signed halfword multiplies: bits 27:23 = 00010, bit 20 = 0, bit 7 = 1, bit 4 = 0 (R142 DSP-mul). -/
def decodeDspMultiply (a : Arch) (c : Cond) (f : Fields) : Decoded :=
  match f.b22, f.b21 with
  | false, false => leaf a true (.smlaxy c f.rn f.rd f.rs f.b6 f.b5 f.rm)
  | false, true =>
    if f.b5 then leaf a (f.rd == 0) (.smulwy c f.rn f.rs f.b6 f.rm) else leaf a true (.smlawy c f.rn f.rd f.rs f.b6 f.rm)
  | true, false => leaf a true (.smlalxy c f.rn f.rd f.rs f.b6 f.b5 f.rm)
  | true, true => leaf a (f.rd == 0) (.smulxy c f.rn f.rs f.b6 f.b5 f.rm)

/-- The rows of the miscellaneous space: bits 27:23 = 00010, bit 20 = 0 (R190), but for the space of bits 7 and 4 both
1. -/
def decodeMisc (a : Arch) (c : Cond) (f : Fields) : Decoded :=
  if f.b7 then decodeDspMultiply a c f
  else
    match f.b6, f.b5, f.b4, f.b22, f.b21 with
    | false, false, false, r, false => leaf a (f.rn == 15 && f.rs == 0 && f.rm == 0) (.mrs c r f.rd)
    | false, false, false, r, true => leaf a (f.rd == 15 && f.rs == 0) (.msrReg c r f.rn f.rm)
    | false, false, true, false, true => leaf a (f.rn == 15 && f.rd == 15 && f.rs == 15) (.bx c f.rm)
    | false, true, false, false, true => leaf a (f.rn == 15 && f.rd == 15 && f.rs == 15) (.bxj c f.rm)
    | false, true, true, false, true => leaf a (f.rn == 15 && f.rd == 15 && f.rs == 15) (.blx2 c f.rm)
    | false, false, true, true, true => leaf a (f.rn == 15 && f.rs == 15) (.clz c f.rd f.rm)
    | true, false, true, false, false => leaf a (f.rs == 0) (.qadd c f.rn f.rd f.rm)
    | true, false, true, false, true => leaf a (f.rs == 0) (.qsub c f.rn f.rd f.rm)
    | true, false, true, true, false => leaf a (f.rs == 0) (.qdadd c f.rn f.rd f.rm)
    | true, false, true, true, true => leaf a (f.rs == 0) (.qdsub c f.rn f.rd f.rm)
    | true, true, true, false, true =>
      if c == .al then leaf a true (.bkpt (f.rn ++ f.rd ++ f.rs ++ f.rm)) else .reject .noInstruction
    | _, _, _, _, _ => .reject .noInstruction

/-- The rows with bits 27:25 = 000 (R190). -/
def decodeRows000 (a : Arch) (c : Cond) (f : Fields) : Decoded :=
  match f.b7 && f.b4, f.b6 || f.b5, f.b24 with
  | true, true, _ => decodeExtra a c f
  | true, false, false => decodeMultiply a c f
  | true, false, true => decodeSync a c f
  | false, _, _ => if f.b24 && !f.b23 && !f.b20 then decodeMisc a c f else decodeDataProcessing a c f

/-- Bits 27:25 = 000. The SBZ and SBO bits of MRS (bits 19:16 and 11:0) reach over other rows: every word with bits 27:23
= 00010 and bits 21:20 = 00 is MRS but for them. Case (c) of R192 comes before case (b), as the vectors of 98 part 7.2 have
it (log entry 37), so such a word is case (b) only where no row of any version claims it. -/
def decode000 (a : Arch) (c : Cond) (f : Fields) : Decoded :=
  match decodeRows000 a c f with
  | .reject .noInstruction =>
    .reject (if f.b24 && !f.b23 && !f.b21 && !f.b20 then .shouldBeBits else .noInstruction)
  | d => d

/-- Bits 27:25 = 001 (R190). -/
def decode001 (a : Arch) (c : Cond) (f : Fields) : Decoded :=
  if f.b24 && !f.b23 && !f.b20 then
    if f.b21 then leaf a (f.rd == 15) (.msrImm c f.b22 f.rn f.rs f.imm8) else .reject .noInstruction
  else decodeDataProcessing a c f

/-- Bits 27:26 = 01 but for the media space: load and store word or byte (R401). -/
def decodeWordByte (a : Arch) (c : Cond) (f : Fields) : Decoded :=
  match f.b24, f.b21, f.b22, f.b20 with
  | true, false, false, true => leaf a true (.ldr c .offset f.b23 f.rn f.rd f.offset2)
  | true, true, false, true => leaf a true (.ldr c .pre f.b23 f.rn f.rd f.offset2)
  | false, false, false, true => leaf a true (.ldr c .post f.b23 f.rn f.rd f.offset2)
  | false, true, false, true => leaf a true (.ldrt c f.b23 f.rn f.rd f.offset2)
  | true, false, true, true => leaf a true (.ldrb c .offset f.b23 f.rn f.rd f.offset2)
  | true, true, true, true => leaf a true (.ldrb c .pre f.b23 f.rn f.rd f.offset2)
  | false, false, true, true => leaf a true (.ldrb c .post f.b23 f.rn f.rd f.offset2)
  | false, true, true, true => leaf a true (.ldrbt c f.b23 f.rn f.rd f.offset2)
  | true, false, false, false => leaf a true (.str c .offset f.b23 f.rn f.rd f.offset2)
  | true, true, false, false => leaf a true (.str c .pre f.b23 f.rn f.rd f.offset2)
  | false, false, false, false => leaf a true (.str c .post f.b23 f.rn f.rd f.offset2)
  | false, true, false, false => leaf a true (.strt c f.b23 f.rn f.rd f.offset2)
  | true, false, true, false => leaf a true (.strb c .offset f.b23 f.rn f.rd f.offset2)
  | true, true, true, false => leaf a true (.strb c .pre f.b23 f.rn f.rd f.offset2)
  | false, false, true, false => leaf a true (.strb c .post f.b23 f.rn f.rd f.offset2)
  | false, true, true, false => leaf a true (.strbt c f.b23 f.rn f.rd f.offset2)

/-- The parallel add and subtract rows by bits 22:20 and 7:4 (42_parallel_addsub R280). -/
def parallelRow (c : Cond) (rn rd rm : Reg) : Bool → Bool → Bool → Bool → Bool → Bool → Bool → Option Instr
  | false, false, true, false, false, false, true => some (.sadd16 c rn rd rm)
  | false, false, true, false, false, true, true => some (.saddsubx c rn rd rm)
  | false, false, true, false, true, false, true => some (.ssubaddx c rn rd rm)
  | false, false, true, false, true, true, true => some (.ssub16 c rn rd rm)
  | false, false, true, true, false, false, true => some (.sadd8 c rn rd rm)
  | false, false, true, true, true, true, true => some (.ssub8 c rn rd rm)
  | false, true, false, false, false, false, true => some (.qadd16 c rn rd rm)
  | false, true, false, false, false, true, true => some (.qaddsubx c rn rd rm)
  | false, true, false, false, true, false, true => some (.qsubaddx c rn rd rm)
  | false, true, false, false, true, true, true => some (.qsub16 c rn rd rm)
  | false, true, false, true, false, false, true => some (.qadd8 c rn rd rm)
  | false, true, false, true, true, true, true => some (.qsub8 c rn rd rm)
  | false, true, true, false, false, false, true => some (.shadd16 c rn rd rm)
  | false, true, true, false, false, true, true => some (.shaddsubx c rn rd rm)
  | false, true, true, false, true, false, true => some (.shsubaddx c rn rd rm)
  | false, true, true, false, true, true, true => some (.shsub16 c rn rd rm)
  | false, true, true, true, false, false, true => some (.shadd8 c rn rd rm)
  | false, true, true, true, true, true, true => some (.shsub8 c rn rd rm)
  | true, false, true, false, false, false, true => some (.uadd16 c rn rd rm)
  | true, false, true, false, false, true, true => some (.uaddsubx c rn rd rm)
  | true, false, true, false, true, false, true => some (.usubaddx c rn rd rm)
  | true, false, true, false, true, true, true => some (.usub16 c rn rd rm)
  | true, false, true, true, false, false, true => some (.uadd8 c rn rd rm)
  | true, false, true, true, true, true, true => some (.usub8 c rn rd rm)
  | true, true, false, false, false, false, true => some (.uqadd16 c rn rd rm)
  | true, true, false, false, false, true, true => some (.uqaddsubx c rn rd rm)
  | true, true, false, false, true, false, true => some (.uqsubaddx c rn rd rm)
  | true, true, false, false, true, true, true => some (.uqsub16 c rn rd rm)
  | true, true, false, true, false, false, true => some (.uqadd8 c rn rd rm)
  | true, true, false, true, true, true, true => some (.uqsub8 c rn rd rm)
  | true, true, true, false, false, false, true => some (.uhadd16 c rn rd rm)
  | true, true, true, false, false, true, true => some (.uhaddsubx c rn rd rm)
  | true, true, true, false, true, false, true => some (.uhsubaddx c rn rd rm)
  | true, true, true, false, true, true, true => some (.uhsub16 c rn rd rm)
  | true, true, true, true, false, false, true => some (.uhadd8 c rn rd rm)
  | true, true, true, true, true, true, true => some (.uhsub8 c rn rd rm)
  | _, _, _, _, _, _, _ => none

/-- Bits 27:23 = 01101 with bit 4 = 1: pack, SEL, reverse, saturate, extend (R142). -/
def decodePackSatExtend (a : Arch) (c : Cond) (f : Fields) : Decoded :=
  let rot := f.rs.extractLsb' 2 2
  let rotFixed := f.rs.extractLsb' 0 2 == 0
  match f.b22, f.b21, f.b20, f.b7, f.b6, f.b5 with
  | false, false, false, b7, false, false => leaf a true (.pkhbt c f.rn f.rd (f.rs ++ BitVec.ofBool b7) f.rm)
  | false, false, false, b7, true, false => leaf a true (.pkhtb c f.rn f.rd (f.rs ++ BitVec.ofBool b7) f.rm)
  | u, true, _, _, sh, false =>
    if u then leaf a true (.usat c f.satImm f.rd f.amount sh f.rm) else leaf a true (.ssat c f.satImm f.rd f.amount sh f.rm)
  | false, false, false, true, false, true => leaf a (f.rs == 15) (.sel c f.rn f.rd f.rm)
  | false, true, false, false, false, true => leaf a (f.rs == 15) (.ssat16 c f.rn f.rd f.rm)
  | true, true, false, false, false, true => leaf a (f.rs == 15) (.usat16 c f.rn f.rd f.rm)
  | false, true, true, false, false, true => leaf a (f.rn == 15 && f.rs == 15) (.rev c f.rd f.rm)
  | false, true, true, true, false, true => leaf a (f.rn == 15 && f.rs == 15) (.rev16 c f.rd f.rm)
  | true, true, true, true, false, true => leaf a (f.rn == 15 && f.rs == 15) (.revsh c f.rd f.rm)
  | false, false, false, false, true, true =>
    if f.rn == 15 then leaf a rotFixed (.sxtb16 c f.rd rot f.rm) else leaf a rotFixed (.sxtab16 c f.rn f.rd rot f.rm)
  | false, true, false, false, true, true =>
    if f.rn == 15 then leaf a rotFixed (.sxtb c f.rd rot f.rm) else leaf a rotFixed (.sxtab c f.rn f.rd rot f.rm)
  | false, true, true, false, true, true =>
    if f.rn == 15 then leaf a rotFixed (.sxth c f.rd rot f.rm) else leaf a rotFixed (.sxtah c f.rn f.rd rot f.rm)
  | true, false, false, false, true, true =>
    if f.rn == 15 then leaf a rotFixed (.uxtb16 c f.rd rot f.rm) else leaf a rotFixed (.uxtab16 c f.rn f.rd rot f.rm)
  | true, true, false, false, true, true =>
    if f.rn == 15 then leaf a rotFixed (.uxtb c f.rd rot f.rm) else leaf a rotFixed (.uxtab c f.rn f.rd rot f.rm)
  | true, true, true, false, true, true =>
    if f.rn == 15 then leaf a rotFixed (.uxth c f.rd rot f.rm) else leaf a rotFixed (.uxtah c f.rn f.rd rot f.rm)
  | _, _, _, _, _, _ => .reject .noInstruction

/-- Bits 27:23 = 01110 with bit 4 = 1: the dual and most-significant-word multiplies (R142 MEDIA-mul). -/
def decodeMediaMultiply (a : Arch) (c : Cond) (f : Fields) : Decoded :=
  match f.b22, f.b21, f.b20, f.b7, f.b6 with
  | false, false, false, false, false =>
    if f.rd == 15 then leaf a true (.smuad c f.rn f.rs f.b5 f.rm) else leaf a true (.smlad c f.rn f.rd f.rs f.b5 f.rm)
  | false, false, false, false, true =>
    if f.rd == 15 then leaf a true (.smusd c f.rn f.rs f.b5 f.rm) else leaf a true (.smlsd c f.rn f.rd f.rs f.b5 f.rm)
  | true, false, false, false, false => leaf a true (.smlald c f.rn f.rd f.rs f.b5 f.rm)
  | true, false, false, false, true => leaf a true (.smlsld c f.rn f.rd f.rs f.b5 f.rm)
  | true, false, true, false, false =>
    if f.rd == 15 then leaf a true (.smmul c f.rn f.rs f.b5 f.rm) else leaf a true (.smmla c f.rn f.rd f.rs f.b5 f.rm)
  | true, false, true, true, true => leaf a true (.smmls c f.rn f.rd f.rs f.b5 f.rm)
  | _, _, _, _, _ => .reject .noInstruction

/-- Bits 27:23 = 01111 with bit 4 = 1: USAD8, USADA8 and the architecturally Undefined pattern (R192 (a)). -/
def decodeUsad (a : Arch) (c : Cond) (f : Fields) : Decoded :=
  match f.b22, f.b21, f.b20, f.b7, f.b6, f.b5 with
  | false, false, false, false, false, false =>
    if f.rd == 15 then leaf a true (.usad8 c f.rn f.rs f.rm) else leaf a true (.usada8 c f.rn f.rd f.rs f.rm)
  | true, true, true, true, true, true => .undefinedPattern c
  | _, _, _, _, _, _ => .reject .noInstruction

/-- Bits 27:25 = 011 with bit 4 = 1: the media space (R190). -/
def decodeMedia (a : Arch) (c : Cond) (f : Fields) : Decoded :=
  match f.b24, f.b23 with
  | false, false =>
    match parallelRow c f.rn f.rd f.rm f.b22 f.b21 f.b20 f.b7 f.b6 f.b5 true with
    | some i => leaf a (f.rs == 15) i
    | none => .reject .noInstruction
  | false, true => decodePackSatExtend a c f
  | true, false => decodeMediaMultiply a c f
  | true, true => decodeUsad a c f

/-- Bits 27:25 = 100: load and store multiple (R450); bit 21 of LDM (2) and STM (2) must be 0. -/
def decodeMultiple (a : Arch) (c : Cond) (f : Fields) : Decoded :=
  let am := Mode4.ofBits f.b24 f.b23
  let list15 := f.imm16.extractLsb' 0 15
  match f.b22, f.b20 with
  | false, true => leaf a true (.ldm1 c am f.b21 f.rn f.imm16)
  | false, false => leaf a true (.stm1 c am f.b21 f.rn f.imm16)
  | true, true =>
    if f.imm16.getLsbD 15 then leaf a true (.ldm3 c am f.b21 f.rn list15)
    else if f.b21 then .reject .noInstruction else leaf a true (.ldm2 c am f.rn list15)
  | true, false => if f.b21 then .reject .noInstruction else leaf a true (.stm2 c am f.rn f.imm16)

/-- Bits 27:25 = 110 and 1110 (R190); `c` is none for the "2" forms of R541. -/
def decodeCoprocessor (a : Arch) (c : Option Cond) (f : Fields) : Decoded :=
  match f.b25 with
  | false =>
    match Mode5.ofBits f.b24 f.b23 f.b21 with
    | some am =>
      match f.b20, c with
      | true, some c => leaf a true (.ldc c am f.b22 f.rn f.rd f.rs f.imm8)
      | false, some c => leaf a true (.stc c am f.b22 f.rn f.rd f.rs f.imm8)
      | true, none => leaf a true (.ldc2 am f.b22 f.rn f.rd f.rs f.imm8)
      | false, none => leaf a true (.stc2 am f.b22 f.rn f.rd f.rs f.imm8)
    | none =>
      if f.b22 then
        match f.b20, c with
        | false, some c => leaf a true (.mcrr c f.rn f.rd f.rs f.low4 f.rm)
        | true, some c => leaf a true (.mrrc c f.rn f.rd f.rs f.low4 f.rm)
        | false, none => leaf a true (.mcrr2 f.rn f.rd f.rs f.low4 f.rm)
        | true, none => leaf a true (.mrrc2 f.rn f.rd f.rs f.low4 f.rm)
      else .reject .noInstruction
  | true =>
    let op1 := nib f.b23 f.b22 f.b21 f.b20
    let op1s := BitVec.ofBool f.b23 ++ BitVec.ofBool f.b22 ++ BitVec.ofBool f.b21
    let op2 := BitVec.ofBool f.b7 ++ BitVec.ofBool f.b6 ++ BitVec.ofBool f.b5
    match f.b4, f.b20, c with
    | false, _, some c => leaf a true (.cdp c op1 f.rn f.rd f.rs op2 f.rm)
    | false, _, none => leaf a true (.cdp2 op1 f.rn f.rd f.rs op2 f.rm)
    | true, false, some c => leaf a true (.mcr c op1s f.rn f.rd f.rs op2 f.rm)
    | true, false, none => leaf a true (.mcr2 op1s f.rn f.rd f.rs op2 f.rm)
    | true, true, some c => leaf a true (.mrc c op1s f.rn f.rd f.rs op2 f.rm)
    | true, true, none => leaf a true (.mrc2 op1s f.rn f.rd f.rs op2 f.rm)

/-- A word with a condition (R190). -/
def decodeConditional (a : Arch) (c : Cond) (f : Fields) : Decoded :=
  match f.b27, f.b26, f.b25 with
  | false, false, false => decode000 a c f
  | false, false, true => decode001 a c f
  | false, true, false => decodeWordByte a c f
  | false, true, true => if f.b4 then decodeMedia a c f else decodeWordByte a c f
  | true, false, false => decodeMultiple a c f
  | true, false, true => if f.b24 then leaf a true (.bl c f.imm24) else leaf a true (.b c f.imm24)
  | true, true, false => decodeCoprocessor a (some c) f
  | true, true, true => if f.b24 then leaf a true (.swi c f.imm24) else decodeCoprocessor a (some c) f

/-- CPS and SETEND: bits 31:20 = 1111 0001 0000 (R170). -/
def decodeCpsSetend (a : Arch) (f : Fields) : Decoded :=
  let zeros := f.rd == 0
  match f.rn.getLsbD 0, f.b5 with
  | false, false =>
    leaf a (zeros && f.rs.extractLsb' 1 3 == 0)
      (.cps (f.rn.extractLsb' 2 2) (f.rn.getLsbD 1) (f.rs.getLsbD 0) f.b7 f.b6 f.modeNumber)
  | true, _ =>
    if f.rn == 1 && f.low4 == 0 then
      leaf a (zeros && f.rs.extractLsb' 2 2 == 0 && !f.rs.getLsbD 0 && f.rm == 0) (.setend (f.rs.getLsbD 1))
    else .reject .noInstruction
  | false, true => .reject .noInstruction

/-- A word with cond = 0b1111 (R144). -/
def decodeUnconditional (a : Arch) (f : Fields) : Decoded :=
  match f.b27, f.b26, f.b25 with
  | false, false, false =>
    if f.b24 && !f.b23 && !f.b22 && !f.b21 && !f.b20 then decodeCpsSetend a f else .reject .noInstruction
  | false, false, true => .reject .noInstruction
  | false, true, i =>
    if f.b24 && f.b22 && !f.b21 && f.b20 && f.rd == 15 && !(i && f.b4) then leaf a true (.pld f.b23 f.rn f.offset2)
    else .reject .noInstruction
  | true, false, false =>
    match f.b22, f.b20 with
    | false, true =>
      if f.rs == 10 then
        leaf a (f.rd == 0 && f.low4 == 0 && f.rm == 0) (.rfe (Mode4.ofBits f.b24 f.b23) f.b21 f.rn)
      else .reject .noInstruction
    | true, false =>
      if f.rn == 13 && f.rs == 5 then
        leaf a (f.rd == 0 && !f.b7 && !f.b6 && !f.b5) (.srs (Mode4.ofBits f.b24 f.b23) f.b21 f.modeNumber)
      else .reject .noInstruction
    | _, _ => .reject .noInstruction
  | true, false, true => leaf a true (.blx1 f.b24 f.imm24)
  | true, true, false => decodeCoprocessor a none f
  | true, true, true => if f.b24 then .reject .noInstruction else decodeCoprocessor a none f

/-- The instruction whose fields are `f`, at version `a`. -/
def decodeFields (a : Arch) (f : Fields) : Decoded :=
  match Cond.ofCode f.cond with
  | some c => decodeConditional a c f
  | none => decodeUnconditional a f

/-- The instruction a word is, at version `a`. -/
def decode (a : Arch) (w : Word) : Decoded := decodeFields a (splitWord w)

/-- The word four bytes make, lowest address first; `big` is the fetch order of CP15_B = 1 (R97). -/
def wordOfBytes (big : Bool) (b0 b1 b2 b3 : Byte) : Word :=
  if big then b0 ++ b1 ++ b2 ++ b3 else b3 ++ b2 ++ b1 ++ b0

/-- The decoder on bytes as they lie in memory, lowest address first: total, rejecting by name. -/
def decodeBytes (a : Arch) (big : Bool) : List Byte → Decoded
  | [b0, b1, b2, b3] => decode a (wordOfBytes big b0 b1 b2 b3)
  | _ => .reject .noInstruction

/-- The bytes in which a little-endian memory holds a word, lowest address first (R97). -/
def bytesOfWord (w : Word) : List Byte :=
  [w.extractLsb' 0 8, w.extractLsb' 8 8, w.extractLsb' 16 8, w.extractLsb' 24 8]

/-- The instruction the decoder reads from the bits `w` of a row of the opcode table, at the default version (R9).
Every row is one word (R140). -/
def decodeTableWord (nbits w : Nat) : Option Instr :=
  match decodeBytes Params.default.arch Params.default.cp15B (bytesOfWord (BitVec.ofNat 32 (w % 2 ^ nbits))) with
  | .instr i => some i
  | _ => none

end Sys2Proof
end

