-- ==== Sys2Proof/Machine/State.lean ====
section
/-! DEFINITION. Machine/State.lean: the machine's state as plain data (10_state R40 to R70), the reasons a step stops,
and the state after reset (70_reset R620). -/

namespace Sys2Proof.Machine

/-- The seven processor modes (R58, R595). -/
inductive Mode where
  | usr | fiq | irq | svc | abt | und | sys
  deriving DecidableEq, Repr

/-- The names of the 30 general registers but the pc (R42): `usr n` is Rn_usr, `fiq k` is R(8+k)_fiq, and `svc k`,
`abt k`, `und k`, `irq k` are R(13+k) of that mode. -/
inductive PhysReg where
  | usr (n : Fin 15)
  | fiq (k : Fin 7)
  | svc (k : Fin 2)
  | abt (k : Fin 2)
  | und (k : Fin 2)
  | irq (k : Fin 2)
  deriving DecidableEq, Repr

/-- The banks of R42. -/
structure RegFile where
  usr : Vector Word 15
  fiq : Vector Word 7
  svc : Vector Word 2
  abt : Vector Word 2
  und : Vector Word 2
  irq : Vector Word 2
  deriving DecidableEq, Repr

/-- The five SPSRs (R61). -/
structure SpsrFile where
  fiq : Word
  irq : Word
  svc : Word
  abt : Word
  und : Word
  deriving DecidableEq, Repr

/-- A mark of an exclusive monitor (R120): a physical address and a size in bytes. -/
structure Mark where
  addr : Word
  size : Nat
  deriving DecidableEq, Repr

/-- A mark of the global monitor and the processor that holds it (R120). -/
structure GlobalMark where
  pid : Nat
  mark : Mark
  deriving DecidableEq, Repr

/-- What stands at a coprocessor number (R532): nothing the model is given, or a coprocessor of the interface of R533.
What an instruction that names an `absent` one does is the default of R9: it is Undefined, but at ARMv6 coprocessors 14
and 15 are mandatory and not described, and naming one is refused. -/
inductive Coproc where
  | absent
  | present (unit : CoprocUnit)
  deriving DecidableEq, Repr

/-- The hazard of R630: `armed` by an LDM (2) or STM (2) that passed its condition before ARMv6, `live` while the very
next instruction executes. -/
inductive BankHazard where
  | none | armed | live
  deriving DecidableEq, Repr

/-- The state of the machine. -/
structure State where
  /-- The general registers of every bank (R42). -/
  regs : RegFile
  /-- The address of the next instruction to execute (R45). -/
  pc : Word
  /-- The current program status register (R50). -/
  cpsr : Word
  /-- The saved program status registers (R61). -/
  spsr : SpsrFile
  /-- Memory: the bytes that hold a value, addresses strictly rising (R90, R91). -/
  mem : List Host.Cell
  /-- The addresses stored to since launch, strictly rising (R93, R128). -/
  written : List Nat
  /-- The local exclusive monitor; `none` is open (R120). -/
  localMonitor : Option Mark
  /-- The marks of the global exclusive monitor (R120); this processor is number 0 (R130). -/
  globalMonitor : List GlobalMark
  /-- The sixteen coprocessors (R532). -/
  coproc : Vector Coproc 16
  /-- The IRQ request line (R580). -/
  irqLine : Bool
  /-- The FIQ request line (R580). -/
  fiqLine : Bool
  /-- The imprecise data abort request line (R580). -/
  abortLine : Bool
  /-- The hazard of R630. -/
  bankHazard : BankHazard
  /-- The model's own: how many free values have been drawn. -/
  freeCount : Nat
  /-- The parameters of R9, which no step changes. -/
  params : Params
  deriving DecidableEq, Repr

/-- What makes an instruction UNPREDICTABLE with no effect among its choices (R18, R20). -/
inductive Unpredictable where
  /-- Sequential execution past 0xFFFFFFFC (R46). -/
  | pcWrap
  /-- A value with bits 1:0 not 00 written to the pc in ARM state (R48, R455, R458). -/
  | misalignedPc
  /-- A B, BL or BLX (1) target outside the address space (R46, R381, R382). -/
  | branchRange
  /-- An interworking target with bits 1:0 = 10 (R383 to R385, R410, R453). -/
  | halfwordTarget
  /-- R15 in a register field that does not allow it. -/
  | r15Operand
  /-- R15 as a base register with write-back (R404, R530). -/
  | pcWriteback
  /-- Two fields name one register where that is UNPREDICTABLE. -/
  | sameRegister
  /-- The current mode has no SPSR (R29), or the form is not allowed in User or System mode (R454, R457). -/
  | noSpsr
  /-- A privileged form in User mode (R458). -/
  | userMode
  /-- A reserved mode number (R58). -/
  | reservedMode
  /-- A write of 1 to an unallocated PSR bit (R56). -/
  | reservedPsrBits
  /-- MSR to the state bits T or J of the CPSR (R502). -/
  | stateBits
  /-- A misaligned access in a cell of R100 that is UNPREDICTABLE. -/
  | misaligned
  /-- An empty register list (R452). -/
  | emptyList
  /-- A combination of CPS fields the assembler must not generate (R505). -/
  | cpsFields
  /-- P = 0 with W = 1 in Addressing Mode 3 (R405). -/
  | mode3Writeback
  /-- A banked register accessed right after LDM (2) or STM (2) before ARMv6 (R630). -/
  | bankedAfterUserTransfer
  deriving DecidableEq, Repr

/-- Why the machine stops with a fault. Every one is safe: the hardware may go on where the model stops, so no false
claim can rest on it. -/
inductive Fault where
  /-- Raised by meanings and operations where the spec says UNPREDICTABLE and gives no effect (R20). Safe. -/
  | unpredictable (why : Unpredictable)
  /-- Raised by `memByte` on a data read of a byte nothing has written (R91). Safe. -/
  | readUnwritten (addr : Word)
  /-- Raised by `fetch` on a byte nothing has written (R91). Safe. -/
  | fetchUnwritten (addr : Word)
  /-- Raised by `fetch` on a byte the program has written (R128). Safe. -/
  | fetchWritten (addr : Word)
  /-- Raised by a multiple transfer that crosses 0xFFFFFFFF (R114). Safe. -/
  | transferWrap
  /-- Raised by the step on a word that is no instruction (R192). Safe. -/
  | undefinedWord (why : Reject)
  deriving DecidableEq, Repr

/-- Why the model refuses to go on. Every one is safe: the model claims nothing about what follows. -/
inductive Refusal where
  /-- Raised by `exec` for an instruction without a meaning, by its mnemonic. Safe. -/
  | notModelled (mnemonic : String)
  /-- Raised by the step when CPSR.T or CPSR.J is 1: no Thumb or Java instruction is in the spec (R59, R386). Safe. -/
  | leftArmState
  /-- Raised by BXJ when JE = 1 (R385): SUB-ARCHITECTURE DEFINED. Safe. -/
  | jazelleEnabled
  /-- Raised by BKPT when debug hardware overrides it (R508). Safe. -/
  | debugOverride
  /-- Raised at ARMv6 by an instruction that names coprocessor 14 or 15, mandatory and not described, when the model is
  given none (R9, R532). Safe. -/
  | coprocessorUndescribed (cp : Nat)
  /-- Raised by SETEND, exception entry and the step when CP15_B = 1 meets CPSR.E = 1, which is reserved (R96). Safe. -/
  | reservedByteOrder
  /-- Raised by the step when CP15_U = 1 and CP15_B = 1 (R96). Safe. -/
  | unsupportedByteOrder
  deriving DecidableEq, Repr

/-- The outcome of a step of this machine. -/
abbrev Out := Host.Outcome State Fault Refusal

/-- Every general register at zero. DESIGN CHOICE (log entry 1): R69 gives them no reset value. -/
def RegFile.reset : RegFile where
  usr := Vector.replicate 15 0
  fiq := Vector.replicate 7 0
  svc := Vector.replicate 2 0
  abt := Vector.replicate 2 0
  und := Vector.replicate 2 0
  irq := Vector.replicate 2 0

/-- Every SPSR at User mode, ARM state, nothing masked. DESIGN CHOICE (log entry 3): R69 gives them no reset value. -/
def SpsrFile.reset : SpsrFile where
  fiq := 0x00000010
  irq := 0x00000010
  svc := 0x00000010
  abt := 0x00000010
  und := 0x00000010

/-- No coprocessor is given to the machine (R9, R69): each has the default of R532. -/
def resetCoproc : Vector Coproc 16 := Vector.replicate 16 .absent

/-- The Reset row of the vector table (R561, R620). -/
def resetVector (p : Params) : Word := if p.hivecs then 0xFFFF0000 else 0x00000000

/-- The CPSR that reset leaves (R620): Supervisor mode, ARM state, IRQ and FIQ disabled; at ARMv6 imprecise aborts
disabled, and E as `CP15_EE`. The flags are DESIGN CHOICE (log entry 2). Before ARMv6 bits 8 and 9
are unallocated and so 0 (R56, R503; DEDUCED, log entry 8). -/
def resetCpsr (p : Params) : Word :=
  if p.arch = .v6 then (if p.cp15EE then 0x000003D3 else 0x000001D3) else 0x000000D3

/-- The machine with the parameters `p` right after reset (R620, R69). -/
def State.resetWith (p : Params) : State where
  regs := RegFile.reset
  pc := resetVector p
  cpsr := resetCpsr p
  spsr := SpsrFile.reset
  mem := []
  written := []
  localMonitor := none
  globalMonitor := []
  coproc := resetCoproc
  irqLine := false
  fiqLine := false
  abortLine := false
  bankHazard := .none
  freeCount := 0
  params := p

/-- The machine right after reset with the default parameters of R9 (R620, R69). -/
def State.reset : State := State.resetWith Params.default

end Sys2Proof.Machine
end

