-- ==== Sys2Proof/Machine/Ops.lean ====
section
/-! DEFINITION. Machine/Ops.lean: the operations the meanings share: the status registers and modes, the banked
registers, memory, the exclusive monitors, exception entry and return, and the end of an instruction. -/

namespace Sys2Proof.Machine

/-! ### How an instruction ends -/

/-- What ends an instruction before its last effect: an architectural exception, a fault or a refusal. -/
inductive Stop where
  | dataAbort
  | undefinedInstruction
  | fault (f : Fault)
  | refuse (r : Refusal)
  deriving DecidableEq, Repr

/-- A computation of an instruction that may stop. -/
abbrev Exec (α : Type) := Except Stop α

/-- Stops because the behaviour is UNPREDICTABLE (R20). -/
def unpredictable (why : Unpredictable) : Exec α := .error (.fault (.unpredictable why))

/-- Goes on when `ok`, else stops as UNPREDICTABLE: a decode or operand check of a rule. -/
def require (ok : Bool) (why : Unpredictable) : Exec Unit := if ok then .ok () else unpredictable why

/-! ### Modes and status registers -/

/-- The mode numbers (R58). -/
def Mode.code : Mode → BitVec 5
  | .usr => 0b10000 | .fiq => 0b10001 | .irq => 0b10010 | .svc => 0b10011
  | .abt => 0b10111 | .und => 0b11011 | .sys => 0b11111

/-- The mode a number names; every other number is reserved (R58). -/
def Mode.ofCode (x : BitVec 5) : Option Mode :=
  match x.toNat with
  | 16 => some .usr | 17 => some .fiq | 18 => some .irq | 19 => some .svc
  | 23 => some .abt | 27 => some .und | 31 => some .sys
  | _ => none

/-- `InAPrivilegedMode()` (R29). -/
def Mode.privileged (m : Mode) : Bool := m != .usr

/-- `CurrentModeHasSPSR()` (R29). -/
def Mode.hasSpsr (m : Mode) : Bool := m != .usr && m != .sys

/-- The mode field M[4:0] of a PSR value (R51). -/
def psrMode (x : Word) : BitVec 5 := x.extractLsb' 0 5

namespace State

/-- The mode the CPSR names (R42). The step runs nothing while M is reserved, so the default is never used by it. -/
def mode (s : State) : Mode := (Mode.ofCode (psrMode s.cpsr)).getD .usr

/-- CPSR.N (R51). -/
def flagN (s : State) : Bool := s.cpsr.getLsbD 31

/-- CPSR.Z (R51). -/
def flagZ (s : State) : Bool := s.cpsr.getLsbD 30

/-- CPSR.C (R51). -/
def flagC (s : State) : Bool := s.cpsr.getLsbD 29

/-- CPSR.V (R51). -/
def flagV (s : State) : Bool := s.cpsr.getLsbD 28

/-- CPSR.Q (R53). -/
def flagQ (s : State) : Bool := s.cpsr.getLsbD 27

/-- CPSR.J (R59). -/
def bitJ (s : State) : Bool := s.cpsr.getLsbD 24

/-- CPSR.GE[3:0] (R54). -/
def flagsGE (s : State) : BitVec 4 := s.cpsr.extractLsb' 16 4

/-- CPSR.E (R55). -/
def bitE (s : State) : Bool := s.cpsr.getLsbD 9

/-- CPSR.A (R57). -/
def bitA (s : State) : Bool := s.cpsr.getLsbD 8

/-- CPSR.I (R57). -/
def bitI (s : State) : Bool := s.cpsr.getLsbD 7

/-- CPSR.F (R57). -/
def bitF (s : State) : Bool := s.cpsr.getLsbD 6

/-- CPSR.T (R59). -/
def bitT (s : State) : Bool := s.cpsr.getLsbD 5

/-- The state with another CPSR; a change of M switches the bank of registers, copying none (R42). -/
def setCpsr (s : State) (x : Word) : State := { s with cpsr := x }

/-- One bit of the CPSR changed. -/
def setCpsrBit (s : State) (k : Nat) (b : Bool) : State := s.setCpsr (withBit s.cpsr k b)

/-- N and Z changed (R52). -/
def setNZ (s : State) (n z : Bool) : State := s.setCpsr (withBit (withBit s.cpsr 31 n) 30 z)

/-- N, Z, C and V changed (R52). -/
def setNZCV (s : State) (n z c v : Bool) : State :=
  s.setCpsr (withBit (withBit (withBit (withBit s.cpsr 31 n) 30 z) 29 c) 28 v)

/-- Q is set to 1 when `b`, and never set to 0 (R53). -/
def stickQ (s : State) (b : Bool) : State := if b then s.setCpsrBit 27 true else s

/-- GE[3:0] changed (R54). -/
def setGE (s : State) (ge : BitVec 4) : State := s.setCpsr (withField s.cpsr 16 ge)

/-- The architecture version. -/
def arch (s : State) : Arch := s.params.arch

/-- Whether the version is ARMv6. -/
def isV6 (s : State) : Bool := s.params.arch == .v6

end State

/-- The four columns of Table A4-1 (R503). -/
structure PsrMasks where
  unalloc : Word
  user : Word
  priv : Word
  state : Word
  deriving DecidableEq, Repr

/-- The rows of Table A4-1 as R503 uses them. -/
def psrMasks : Arch → PsrMasks
  | .v4 => ⟨0x0FFFFF20, 0xF0000000, 0x000000DF, 0x00000000⟩
  | .v4T => ⟨0x0FFFFF00, 0xF0000000, 0x000000DF, 0x00000020⟩
  | .v5T => ⟨0x0FFFFF00, 0xF0000000, 0x000000DF, 0x00000020⟩
  | .v5TE => ⟨0x07FFFF00, 0xF8000000, 0x000000DF, 0x00000020⟩
  | .v5TExP => ⟨0x07FFFF00, 0xF8000000, 0x000000DF, 0x00000020⟩
  | .v5TEJ => ⟨0x06FFFF00, 0xF8000000, 0x000000DF, 0x01000020⟩
  | .v6 => ⟨0x06F0FC00, 0xF80F0200, 0x000001DF, 0x01000020⟩

namespace SpsrFile

/-- The SPSR of a mode; User and System have none (R61). -/
def get (f : SpsrFile) : Mode → Option Word
  | .fiq => some f.fiq | .irq => some f.irq | .svc => some f.svc | .abt => some f.abt | .und => some f.und
  | .usr => none | .sys => none

/-- The SPSR of a mode written. -/
def set (f : SpsrFile) (m : Mode) (v : Word) : SpsrFile :=
  match m with
  | .fiq => { f with fiq := v }
  | .irq => { f with irq := v }
  | .svc => { f with svc := v }
  | .abt => { f with abt := v }
  | .und => { f with und := v }
  | .usr => f
  | .sys => f

end SpsrFile

/-- The SPSR of the current mode; UNPREDICTABLE in User and System mode (R61). -/
def currentSpsr (s : State) : Exec Word :=
  match s.spsr.get s.mode with
  | some v => .ok v
  | none => unpredictable .noSpsr

/-! ### General registers -/

/-- The register that number `n` names in mode `m`, by the table of R42. -/
def bankedReg (m : Mode) (n : Fin 15) : PhysReg :=
  match m with
  | .usr => .usr n
  | .sys => .usr n
  | .fiq => if h : 8 ≤ n.val then .fiq ⟨n.val - 8, by omega⟩ else .usr n
  | .svc => if h : 13 ≤ n.val then .svc ⟨n.val - 13, by omega⟩ else .usr n
  | .abt => if h : 13 ≤ n.val then .abt ⟨n.val - 13, by omega⟩ else .usr n
  | .und => if h : 13 ≤ n.val then .und ⟨n.val - 13, by omega⟩ else .usr n
  | .irq => if h : 13 ≤ n.val then .irq ⟨n.val - 13, by omega⟩ else .usr n

/-- The register an instruction field names in mode `m`; R15 is the pc and no register of the file. -/
def physReg (m : Mode) (n : Reg) : Option PhysReg :=
  if h : n.toNat < 15 then some (bankedReg m ⟨n.toNat, h⟩) else none

namespace RegFile

/-- Reads one register of the file. -/
def get (f : RegFile) : PhysReg → Word
  | .usr n => f.usr[n]
  | .fiq k => f.fiq[k]
  | .svc k => f.svc[k]
  | .abt k => f.abt[k]
  | .und k => f.und[k]
  | .irq k => f.irq[k]

/-- Writes one register of the file. -/
def set (f : RegFile) (p : PhysReg) (v : Word) : RegFile :=
  match p with
  | .usr n => { f with usr := f.usr.set n v }
  | .fiq k => { f with fiq := f.fiq.set k v }
  | .svc k => { f with svc := f.svc.set k v }
  | .abt k => { f with abt := f.abt.set k v }
  | .und k => { f with und := f.und.set k v }
  | .irq k => { f with irq := f.irq.set k v }

end RegFile

namespace State

/-- Reads a register of the file by its own name. -/
def readPhys (s : State) (p : PhysReg) : Word := s.regs.get p

/-- Writes a register of the file by its own name. -/
def writePhys (s : State) (p : PhysReg) (v : Word) : State := { s with regs := s.regs.set p v }

/-- `R[n]` in mode `m` as an operand: R15 reads the address of the instruction plus 8 (R44). -/
def readRegIn (s : State) (m : Mode) (n : Reg) : Word :=
  match physReg m n with
  | some p => s.readPhys p
  | none => s.pc + 8

/-- `R[n]` of the current mode as an operand (R14, R44). -/
def readReg (s : State) (n : Reg) : Word := s.readRegIn s.mode n

/-- Writes `R[n]` of mode `m`, n not 15: no rule writes the pc this way, and none is written. -/
def writeRegIn (s : State) (m : Mode) (n : Reg) (v : Word) : State :=
  match physReg m n with
  | some p => s.writePhys p v
  | none => s

/-- Writes `R[n]` of the current mode, n not 15 (R14). -/
def writeReg (s : State) (n : Reg) (v : Word) : State := s.writeRegIn s.mode n v

/-- The value a store of register `n` in mode `m` takes: for R15 it is IMPLEMENTATION DEFINED, the address of the
instruction plus 8 or plus 12 (R419). -/
def storedReg (s : State) (m : Mode) (n : Reg) : Word :=
  match physReg m n with
  | some p => s.readPhys p
  | none => s.pc + (if Config.pcStoreTwelve then 12 else 8)

/-- An optional write-back of a base register (R403). -/
def writeBack (s : State) (n : Reg) : Option Word → State
  | some v => s.writeReg n v
  | none => s

/-- The next free value (R20): of it nothing is known. -/
def free (s : State) : Word := Config.freeWord s.freeCount

/-- The state after a free value has been taken. -/
def drawn (s : State) : State := { s with freeCount := s.freeCount + 1 }

end State

/-! ### Moving the pc -/

/-- Ends an instruction that does not write the pc: the next instruction is at `cur + 4`, and running past the end of
the address space is UNPREDICTABLE (R45, R46). -/
def advance (s : State) : Exec State :=
  if s.pc.toNat + 4 < 2 ^ 32 then .ok { s with pc := s.pc + 4 } else unpredictable .pcWrap

/-- A write of the pc that selects no state: in ARM state bits 1:0 must be 00 (R48). -/
def branchArm (s : State) (target : Word) : Exec State :=
  if target.extractLsb' 0 2 = 0 then .ok { s with pc := target } else unpredictable .misalignedPc

/-- A write of the pc that takes the T bit from bit 0 (R47, R384): bits 1:0 = 10 are UNPREDICTABLE. -/
def branchExchange (s : State) (target : Word) : Exec State :=
  if target.extractLsb' 0 2 = 2 then unpredictable .halfwordTarget
  else .ok { (s.setCpsrBit 5 (target.getLsbD 0)) with pc := target &&& 0xFFFFFFFE }

/-- A value loaded into the pc by LDR or LDM (1): interworking from ARMv5T, masked before (R410, R453). -/
def loadPc (s : State) (value : Word) : Exec State :=
  if s.arch.atLeastV5 then branchExchange s value else .ok { s with pc := value &&& 0xFFFFFFFC }

/-! ### Exceptions -/

/-- The exceptions the model takes (R560, R571). -/
inductive Exception where
  | undefinedInstruction | softwareInterrupt | prefetchAbort | dataAbort | impreciseAbort | irq | fiq
  deriving DecidableEq, Repr

namespace Exception

/-- The mode entered (R561). -/
def mode : Exception → Mode
  | .undefinedInstruction => .und
  | .softwareInterrupt => .svc
  | .prefetchAbort => .abt
  | .dataAbort => .abt
  | .impreciseAbort => .abt
  | .irq => .irq
  | .fiq => .fiq

/-- The register that receives the link value: R14 of the mode entered (R570). -/
def link : Exception → PhysReg
  | .undefinedInstruction => .und 1
  | .softwareInterrupt => .svc 1
  | .prefetchAbort => .abt 1
  | .dataAbort => .abt 1
  | .impreciseAbort => .abt 1
  | .irq => .irq 1
  | .fiq => .fiq 6

/-- The vector offset (R561). -/
def offset : Exception → Word
  | .undefinedInstruction => 0x04
  | .softwareInterrupt => 0x08
  | .prefetchAbort => 0x0C
  | .dataAbort => 0x10
  | .impreciseAbort => 0x10
  | .irq => 0x18
  | .fiq => 0x1C

/-- The link value less the pc, which is `cur` for a synchronous exception and `next` for an interrupt (R571, R580). -/
def linkOffset : Exception → Word
  | .dataAbort => 8
  | _ => 4

/-- Whether entry sets CPSR.F (R571). -/
def masksF : Exception → Bool
  | .fiq => true
  | _ => false

/-- Whether entry sets CPSR.A at ARMv6 (R571). -/
def masksA : Exception → Bool
  | .undefinedInstruction => false
  | .softwareInterrupt => false
  | _ => true

end Exception

/-- The CPSR after entry (R570): the mode, T and J cleared, I set, F and A set where the exception masks them, and at
ARMv6 E taken from CP15_EE. -/
def entryCpsr (p : Params) (e : Exception) (x : Word) : Word :=
  let x := withField x 0 e.mode.code
  let x := withBit (withBit (withBit x 5 false) 24 false) 7 true
  let x := if e.masksF then withBit x 6 true else x
  if p.arch == .v6 then withBit (if e.masksA then withBit x 8 true else x) 9 p.cp15EE else x

/-- The address of an exception's vector (R561). -/
def vectorAddress (p : Params) (e : Exception) : Word := (if p.hivecs then 0xFFFF0000 else 0) + e.offset

/-- The state exception entry leaves (R570): R14 and the SPSR of the mode entered save the link value and the whole old
CPSR. -/
def enterException (e : Exception) (s : State) : State :=
  { s with
    regs := s.regs.set e.link (s.pc + e.linkOffset)
    spsr := s.spsr.set e.mode s.cpsr
    cpsr := entryCpsr s.params e s.cpsr
    pc := vectorAddress s.params e }

/-- Takes an exception (R570). Entry writes a banked R14, which R630 forbids right after an LDM (2) or STM (2) before
ARMv6; and E = 1 with CP15_B = 1 is reserved (R96). -/
def takeException (e : Exception) (s : State) : Out :=
  if s.bankHazard = .live then .fault (.unpredictable .bankedAfterUserTransfer)
  else if s.isV6 && s.params.cp15B && s.params.cp15EE then .refused .reservedByteOrder
  else .next (enterException e s)

/-- The write of a whole CPSR by an exception return, with its checks (R590). -/
def returnCpsr (s : State) (x : Word) : Exec State :=
  if x &&& (psrMasks s.arch).unalloc ≠ 0 then unpredictable .reservedPsrBits
  else if (Mode.ofCode (psrMode x)).isNone then unpredictable .reservedMode
  else .ok (s.setCpsr x)

/-- Ends an exception return whose pc comes from memory (R455, R458): in ARM state the target must be word-aligned. -/
def returnTo (s : State) (target : Word) : Exec State :=
  if s.bitT then .ok { s with pc := target } else branchArm s target

/-- The outcome of an instruction: an exception is taken from the state `aborted` for a Data Abort and from the state
before the instruction for Undefined Instruction, with none of its other effects (R118, R563, R572). -/
def finishFrom (aborted s : State) : Exec State → Out
  | .ok t => .next t
  | .error .dataAbort => takeException .dataAbort aborted
  | .error .undefinedInstruction => takeException .undefinedInstruction s
  | .error (.fault f) => .fault f
  | .error (.refuse r) => .refused r

/-- The outcome of an instruction whose Data Abort leaves the state as it was before it (R118). -/
def finish (s : State) (body : Exec State) : Out := finishFrom s s body

/-! ### Memory -/

/-- Whether an address lies in one of the regions. -/
def inRegions (rs : List Region) (a : Word) : Bool :=
  rs.any (fun r => r.base ≤ a.toNat && a.toNat < r.base + r.size)

namespace State

/-- Whether `MEM_MAP` holds memory at `a` (R113). -/
def mapped (s : State) (a : Word) : Bool := !inRegions s.params.unmapped a

/-- `Shared(a)` (R116). -/
def isShared (s : State) (a : Word) : Bool := inRegions s.params.shared a

/-- `BigEndianData()` (R95). -/
def bigEndianData (s : State) : Bool := s.params.cp15B || (s.isV6 && s.bitE)

/-- The U bit as an access sees it: before ARMv6 it reads as 0 (R99). -/
def alignU (s : State) : Bool := s.isV6 && s.params.cp15U

/-- The A bit: alignment checking (R99). -/
def alignA (s : State) : Bool := s.params.cp15A

/-- The byte at an address, if it holds one. -/
def byteAt (s : State) (a : Word) : Option Byte := Memory.read s.mem a.toNat

/-- Stores one byte and marks it written (R93). -/
def putByte (s : State) (a : Word) (v : Byte) : State :=
  { s with mem := Memory.write s.mem a.toNat v, written := AddrSet.insert s.written a.toNat }

/-- Stores bytes at consecutive addresses, modulo 2^32 (R90). -/
def putBytes (s : State) (a : Word) : List Byte → State
  | [] => s
  | v :: vs => (s.putByte a v).putBytes (a + 1) vs

end State

/-- One byte of a data read: Data Abort outside `MEM_MAP`, a fault where nothing has been written (R92). -/
def memByte (s : State) (a : Word) : Exec Byte :=
  if s.mapped a then
    match s.byteAt a with
    | some v => .ok v
    | none => .error (.fault (.readUnwritten a))
  else .error .dataAbort

/-- `MemRead(a, 2)` (R92). -/
def memHalf (s : State) (a : Word) : Exec Half := do
  let b0 ← memByte s a
  let b1 ← memByte s (a + 1)
  pure (if s.bigEndianData then b0 ++ b1 else b1 ++ b0)

/-- `MemRead(a, 4)` (R92). -/
def memWord (s : State) (a : Word) : Exec Word := do
  let b0 ← memByte s a
  let b1 ← memByte s (a + 1)
  let b2 ← memByte s (a + 2)
  let b3 ← memByte s (a + 3)
  pure (wordOfBytes s.bigEndianData b0 b1 b2 b3)

/-- The bytes of a word in a byte order, lowest address first (R93). -/
def wordBytes (big : Bool) (v : Word) : List Byte :=
  if big then [byteOf v 3, byteOf v 2, byteOf v 1, byteOf v 0] else [byteOf v 0, byteOf v 1, byteOf v 2, byteOf v 3]

/-- The bytes of a halfword in a byte order, lowest address first (R93). -/
def halfBytes (big : Bool) (v : Half) : List Byte :=
  if big then [v.extractLsb' 8 8, v.extractLsb' 0 8] else [v.extractLsb' 0 8, v.extractLsb' 8 8]

/-- The bytes of a reservation granule (R124). -/
def granuleBytes : Nat := 8 * 2 ^ Config.granuleScale.val

/-- Whether two addresses lie in one reservation granule (R124). -/
def sameGranule (a b : Word) : Bool := a == b || a.toNat / granuleBytes == b.toNat / granuleBytes

/-- Whether the `size` bytes from `a` on meet the granule of `m` (R125). -/
def meetsGranule (a : Word) (size : Nat) (m : Mark) : Bool :=
  (List.range size).any (fun i => sameGranule (a + BitVec.ofNat 32 i) m.addr)

namespace State

/-- `ClearExclusiveByAddress` for this processor's store: the other processors' marks on the bytes go (R125). -/
def clearOthers (s : State) (a : Word) (size : Nat) : State :=
  { s with globalMonitor := s.globalMonitor.filter (fun g => g.pid == 0 || !meetsGranule a size g.mark) }

/-- `ClearMonitorsOnStore` (R125). -/
def clearOnStore (s : State) (a : Word) (size : Nat) : State :=
  if s.isV6 && s.isShared a then s.clearOthers a size else s

/-- `MemWrite` without its map check: the bytes, the written marks, the monitors (R93). -/
def store (s : State) (a : Word) (vs : List Byte) : State := (s.putBytes a vs).clearOnStore a vs.length

/-- The word `k` words above `a` is mapped, byte by byte. -/
def mappedBytes (s : State) (a : Word) (n : Nat) : Bool :=
  (List.range n).all (fun i => s.mapped (a + BitVec.ofNat 32 i))

/-- `MemWrite(a, 4, v)` without its map check. -/
def storeWord (s : State) (a : Word) (v : Word) : State := s.store a (wordBytes s.bigEndianData v)

/-- Words stored from `a` on in ascending order (R109), without their map checks. -/
def storeWords (s : State) (a : Word) : List Word → State
  | [] => s
  | v :: vs => (s.storeWord a v).storeWords (a + 4) vs

end State

/-- `MemWrite(a, n, v)` for the `n` bytes given, lowest address first: every byte is checked before any is written
(R93). -/
def memWrite (s : State) (a : Word) (vs : List Byte) : Exec State :=
  if s.mappedBytes a vs.length then .ok (s.store a vs) else .error .dataAbort

/-- `MemWrite(a, 4, v)` (R93). -/
def memWriteWord (s : State) (a : Word) (v : Word) : Exec State := memWrite s a (wordBytes s.bigEndianData v)

/-- `n` words read from `a` on in ascending order (R109). -/
def memWords (s : State) (a : Word) : Nat → Exec (List Word)
  | 0 => .ok []
  | n + 1 => do
    let v ← memWord s a
    let vs ← memWords s (a + 4) n
    pure (v :: vs)

/-- Every byte of `n` words from `a` on is checked against `MEM_MAP` before any access (R118 (b)). -/
def checkWords (s : State) (a : Word) (n : Nat) : Exec Unit :=
  if s.mappedBytes a (4 * n) then .ok () else .error .dataAbort

/-! ### Exclusive monitors -/

namespace State

/-- `MarkExclusiveLocal` (R121). -/
def markLocal (s : State) (a : Word) : State := { s with localMonitor := some ⟨a, 4⟩ }

/-- `MarkExclusiveGlobal`, called for Shared memory only (R122, R481). -/
def markGlobal (s : State) (a : Word) : State :=
  if s.isShared a then
    { s with globalMonitor := ⟨0, ⟨a, 4⟩⟩ :: s.globalMonitor.filter (fun g => g.pid != 0) }
  else s

/-- `ClearExclusiveLocal` (R126). -/
def openLocal (s : State) : State := { s with localMonitor := none }

/-- `IsExclusiveLocal` (R123): whether a different address counts is IMPLEMENTATION DEFINED. -/
def exclusiveLocal (s : State) (a : Word) : Bool :=
  match s.localMonitor with
  | none => false
  | some m => m.size == 4 && (m.addr == a || Config.localMonitorAccepts m.addr a)

/-- `IsExclusiveGlobal` (R124). -/
def exclusiveGlobal (s : State) (a : Word) : Bool :=
  s.globalMonitor.any (fun g => g.pid == 0 && sameGranule a g.mark.addr)

/-- `ClearExclusiveByAddress` on the path of a STREX that succeeded: the other processors' marks on the bytes go, and
this processor's mark goes (R125). -/
def clearAfterStrex (s : State) (a : Word) : State :=
  { s.clearOthers a 4 with globalMonitor := (s.clearOthers a 4).globalMonitor.filter (fun g => g.pid != 0) }

end State

end Sys2Proof.Machine
end

