-- ==== Sys2Proof/Machine/Flags.lean ====
section
/-! DEFINITION. Machine/Flags.lean: the condition field (30_encoding R143) and the results and flags of the arithmetic
(40_data_processing R202). -/

namespace Sys2Proof.Machine

/-- `ConditionPassed(cond)` (R143), on the CPSR before the instruction (R145). -/
def conditionPassed (c : Cond) (s : State) : Bool :=
  match c with
  | .eq => s.flagZ
  | .ne => !s.flagZ
  | .cs => s.flagC
  | .cc => !s.flagC
  | .mi => s.flagN
  | .pl => !s.flagN
  | .vs => s.flagV
  | .vc => !s.flagV
  | .hi => s.flagC && !s.flagZ
  | .ls => !s.flagC || s.flagZ
  | .ge => s.flagN == s.flagV
  | .lt => s.flagN != s.flagV
  | .gt => !s.flagZ && s.flagN == s.flagV
  | .le => s.flagZ || s.flagN != s.flagV
  | .al => true

/-- A conditional instruction: when the condition fails, only the pc advances (R16). -/
def conditional (c : Cond) (s : State) (body : Exec State) : Exec State :=
  if conditionPassed c s then body else advance s

/-- A 32-bit result with its carry and its signed overflow. -/
structure AluOut where
  value : Word
  carry : Bool
  overflow : Bool
  deriving DecidableEq, Repr

/-- `add(x, y, cin)` of R202: `CarryFrom` and `OverflowFrom` of the exact sum (R22, R24). -/
def aluAdd (x y : Word) (cin : Bool) : AluOut where
  value := BitVec.ofNat 32 (x.toNat + y.toNat + cin.toNat)
  carry := decide (2 ^ 32 ≤ x.toNat + y.toNat + cin.toNat)
  overflow := overflows (x.toInt + y.toInt + cin.toNat)

/-- `sub(x, y, cin)` of R202: C is NOT `BorrowFrom` of the exact difference (R23, R24). -/
def aluSub (x y : Word) (cin : Bool) : AluOut where
  value := BitVec.ofInt 32 ((x.toNat : Int) - y.toNat - (!cin).toNat)
  carry := decide (0 ≤ (x.toNat : Int) - y.toNat - (!cin).toNat)
  overflow := overflows (x.toInt - y.toInt - (!cin).toNat)

/-- The flags of the arithmetic class (R201). -/
def State.setArithFlags (s : State) (r : AluOut) : State :=
  s.setNZCV (r.value.getLsbD 31) (r.value == 0) r.carry r.overflow

/-- The flags of the logical class (R201): C from the shifter, V unchanged. -/
def State.setLogicFlags (s : State) (value : Word) (carry : Bool) : State :=
  (s.setNZ (value.getLsbD 31) (value == 0)).setCpsrBit 29 carry

end Sys2Proof.Machine
end

