-- ==== Sys2Proof/Machine/Branch.lean ====
section
/-! DEFINITION. Machine/Branch.lean: the branch instructions (44_branch). -/

namespace Sys2Proof.Machine

/-- The address after the current instruction: the link value of BL and BLX (R381 to R383). -/
def State.linkValue (s : State) : Word := s.pc + 4

/-- `cur + 8` plus four times the signed 24-bit offset plus `extra`, as an unbounded integer (R381, R382). -/
def branchTarget (s : State) (imm : BitVec 24) (extra : Int) : Int := s.pc.toNat + 8 + imm.toInt * 4 + extra

/-- Moves the pc to a computed target, which must lie in the address space (R381). -/
def branchTo (s : State) (target : Int) : Exec State :=
  if 0 ≤ target && target < 2 ^ 32 then .ok { s with pc := toWord target } else unpredictable .branchRange

/-- B (R381). -/
def execB (c : Cond) (imm : BitVec 24) (s : State) : Out :=
  finish s (conditional c s (branchTo s (branchTarget s imm 0)))

/-- BL (R381). -/
def execBl (c : Cond) (imm : BitVec 24) (s : State) : Out :=
  finish s (conditional c s (branchTo (s.writeReg 14 s.linkValue) (branchTarget s imm 0)))

/-- BLX (1) (R382): unconditional, into Thumb state. -/
def execBlx1 (h : Bool) (imm : BitVec 24) (s : State) : Out :=
  finish s (branchTo ((s.writeReg 14 s.linkValue).setCpsrBit 5 true) (branchTarget s imm (if h then 2 else 0)))

/-- BLX (2) (R383): `Rm` is read before R14 is written. -/
def execBlx2 (c : Cond) (rm : Reg) (s : State) : Out :=
  finish s (conditional c s do
    require (rm != 15) .r15Operand
    branchExchange (s.writeReg 14 s.linkValue) (s.readReg rm))

/-- BX (R384). -/
def execBx (c : Cond) (rm : Reg) (s : State) : Out :=
  finish s (conditional c s (branchExchange s (s.readReg rm)))

/-- BXJ (R385): as BX when JE = 0; the side JE = 1 is SUB-ARCHITECTURE DEFINED and refused. -/
def execBxj (c : Cond) (rm : Reg) (s : State) : Out :=
  finish s (conditional c s do
    require (rm != 15) .r15Operand
    if s.params.je then .error (.refuse .jazelleEnabled) else branchExchange s (s.readReg rm))

end Sys2Proof.Machine
end

