-- ==== Sys2Proof/Machine/Operands.lean ====
section
/-! DEFINITION. Machine/Operands.lean: the five addressing modes (30_encoding R150 to R162, 45_load_store R400 to R407,
46_load_store_multiple R450 to R452, 49_coprocessor R530) and the alignment of accesses (20_memory R100). -/

namespace Sys2Proof.Machine

/-! ### Addressing Mode 1 -/

/-- A shift by an immediate `n` of 0 to 31, with its carry out (forms 2, 3, 5, 7, 9, 11: R152, R153, R155, R157, R159,
R161): LSR and ASR by 0 mean 32, ROR by 0 is RRX. -/
def shiftByImm (sh : ShiftType) (x : Word) (n : Nat) (c : Bool) : Word × Bool :=
  match sh with
  | .lsl => if n = 0 then (x, c) else (x <<< n, x.getLsbD (32 - n))
  | .lsr => if n = 0 then (0, x.getLsbD 31) else (x >>> n, x.getLsbD (n - 1))
  | .asr => if n = 0 then (asr x 32, x.getLsbD 31) else (asr x n, x.getLsbD (n - 1))
  | .ror => if n = 0 then (withBit (x >>> 1) 31 c, x.getLsbD 0) else (rotr x n, x.getLsbD (n - 1))

/-- A shift by a register's low byte `n`, 0 to 255, with its carry out (forms 4, 6, 8, 10: R154, R156, R158, R160). -/
def shiftByReg (sh : ShiftType) (x : Word) (n : Nat) (c : Bool) : Word × Bool :=
  if n = 0 then (x, c)
  else
    match sh with
    | .lsl =>
      if n < 32 then (x <<< n, x.getLsbD (32 - n)) else if n = 32 then (0, x.getLsbD 0) else (0, false)
    | .lsr =>
      if n < 32 then (x >>> n, x.getLsbD (n - 1)) else if n = 32 then (0, x.getLsbD 31) else (0, false)
    | .asr => if n < 32 then (asr x n, x.getLsbD (n - 1)) else (asr x 32, x.getLsbD 31)
    | .ror => if n % 32 = 0 then (x, x.getLsbD 31) else (rotr x (n % 32), x.getLsbD (n % 32 - 1))

/-- An 8-bit immediate rotated right by twice a 4-bit count (R151, R166). -/
def rotatedImm (rot : BitVec 4) (imm : BitVec 8) : Word := rotr (zext imm) (2 * rot.toNat)

/-- `shifter_operand` and `shifter_carry_out` (R150). -/
def shifterOperand (s : State) : Operand2 → Word × Bool
  | .imm rot imm =>
    (rotatedImm rot imm, if rot = 0 then s.flagC else (rotatedImm rot imm).getLsbD 31)
  | .shiftImm amount sh rm => shiftByImm sh (s.readReg rm) amount.toNat s.flagC
  | .shiftReg rs sh rm => shiftByReg sh (s.readReg rm) ((s.readReg rs).extractLsb' 0 8).toNat s.flagC

/-- R162: in the register-shift forms R15 is UNPREDICTABLE as `Rm`, `Rs` or any of the instruction's other registers. -/
def operand2Allowed (others : List Reg) : Operand2 → Bool
  | .shiftReg rs _ rm => (rs :: rm :: others).all (fun r => r != 15)
  | _ => true

/-! ### Addressing Modes 2 and 3 -/

/-- What an addressing mode gives (R400): the address and the value written back to the base, if any. -/
structure Access where
  address : Word
  writeback : Option Word
  deriving DecidableEq, Repr

/-- The base plus or minus the offset, modulo 2^32 (R403). -/
def indexed (up : Bool) (base offset : Word) : Word := if up then base + offset else base - offset

/-- The offset of Addressing Mode 2 (R402), no flag changed. -/
def offset2 (s : State) : Offset2 → Word
  | .imm off => zext off
  | .reg amount sh rm => (shiftByImm sh (s.readReg rm) amount.toNat s.flagC).1

/-- The register a Mode 2 offset reads, if any. -/
def offset2Reg : Offset2 → Option Reg
  | .imm _ => none
  | .reg _ _ rm => some rm

/-- The offset of Addressing Mode 3 (R406). -/
def offset3 (s : State) : Offset3 → Word
  | .imm off => zext off
  | .reg rm => s.readReg rm

/-- The register a Mode 3 offset reads, if any. -/
def offset3Reg : Offset3 → Option Reg
  | .imm _ => none
  | .reg rm => some rm

/-- The restrictions R404 and R407 on the registers of an addressing mode: `rm` is not R15; with write-back `rn` is not
R15 and not `rm`. -/
def checkIndexing (writes : Bool) (rn : Reg) (rm : Option Reg) : Exec Unit := do
  require (rm != some 15) .r15Operand
  require (!(writes && rn == 15)) .pcWriteback
  require (!(writes && rm == some rn)) .sameRegister

/-- The table of R403. -/
def accessOf (ix : Index2) (up : Bool) (base offset : Word) : Access :=
  let sum := indexed up base offset
  match ix with
  | .offset => ⟨sum, none⟩
  | .pre => ⟨sum, some sum⟩
  | .post => ⟨base, some sum⟩

/-- Whether an indexing writes its base back (R401). -/
def Index2.writes : Index2 → Bool
  | .offset => false
  | .pre => true
  | .post => true

/-- Addressing Mode 2 (R401 to R404). -/
def address2 (s : State) (ix : Index2) (up : Bool) (rn : Reg) (off : Offset2) : Exec Access := do
  checkIndexing (Index2.writes ix) rn (offset2Reg off)
  pure (accessOf ix up (s.readReg rn) (offset2 s off))

/-- The indexing of Addressing Mode 3 as one of Mode 2; P = 0 with W = 1 is UNPREDICTABLE (R405). -/
def index3 : Index3 → Exec Index2
  | .offset => .ok .offset
  | .pre => .ok .pre
  | .post => .ok .post
  | .postW => unpredictable .mode3Writeback

/-- Addressing Mode 3 (R405 to R407). -/
def address3 (s : State) (ix : Index3) (up : Bool) (rn : Reg) (off : Offset3) : Exec Access := do
  let ix ← index3 ix
  checkIndexing (Index2.writes ix) rn (offset3Reg off)
  pure (accessOf ix up (s.readReg rn) (offset3 s off))

/-- Whether a Mode 3 indexing writes its base back. -/
def Index3.writes : Index3 → Bool
  | .offset => false
  | .pre => true
  | .post => true
  | .postW => true

/-! ### Alignment of single accesses (R100) -/

/-- Bits 1:0 of an address. -/
def low2 (a : Word) : BitVec 2 := a.extractLsb' 0 2

/-- The address with bits 1:0 cleared. -/
def wordBase (a : Word) : Word := a &&& 0xFFFFFFFC

/-- The class "word load" of R100: a misaligned address gives a rotated word, an alignment fault or an unaligned word
(R101, R410). -/
def loadWord (s : State) (a : Word) : Exec Word :=
  if low2 a = 0 then memWord s a
  else if s.alignA then .error .dataAbort
  else if s.alignU then memWord s a
  else do
    let v ← memWord s (wordBase a)
    pure (rotr v (8 * (low2 a).toNat))

/-- The address a store of the class "word store" uses (R100, R102). -/
def storeWordAddress (s : State) (a : Word) : Exec Word :=
  if low2 a = 0 then .ok a
  else if s.alignA then .error .dataAbort
  else if s.alignU then .ok a
  else .ok (wordBase a)

/-- The class "halfword load" of R100: at an odd address with U = A = 0 "the data read from memory is UNPREDICTABLE", and
the instruction stops there rather than load a value (R103, R414). -/
def loadHalf (s : State) (a : Word) : Exec Half :=
  if a.getLsbD 0 = false then memHalf s a
  else if s.alignA then .error .dataAbort
  else if s.alignU then memHalf s a
  else unpredictable .misaligned

/-- The class "halfword store" of R100: with U = A = 0 an odd address makes the instruction UNPREDICTABLE (R103). -/
def checkHalfStore (s : State) (a : Word) : Exec Unit :=
  if a.getLsbD 0 = false then .ok ()
  else if s.alignA then .error .dataAbort
  else if s.alignU then .ok ()
  else unpredictable .misaligned

/-- Whether a doubleword address violates the alignment of R104: 8 bytes with U = 0, 4 bytes with U = 1. -/
def doubleMisaligned (s : State) (a : Word) : Bool :=
  low2 a != 0 || (!s.alignU && a.getLsbD 2)

/-- The alignment of LDRD and STRD (R104, R413, R422): a violation is a Data Abort with A = 1 and UNPREDICTABLE with
A = 0. -/
def checkDoubleAligned (s : State) (a : Word) : Exec Unit :=
  if !doubleMisaligned s a then .ok ()
  else if s.alignA then .error .dataAbort
  else unpredictable .misaligned

/-- The two words of LDRD, lower address first (R104, R413): both are checked against `MEM_MAP` before either is used. -/
def loadDouble (s : State) (a : Word) : Exec (Word × Word) := do
  checkDoubleAligned s a
  checkWords s a 2
  let lo ← memWord s a
  let hi ← memWord s (a + 4)
  pure (lo, hi)

/-- The alignment of LDREX and STREX (R100, R481, R482). -/
def checkExclusive (s : State) (a : Word) : Exec Unit :=
  if low2 a = 0 then .ok ()
  else if s.alignA || s.alignU then .error .dataAbort
  else unpredictable .misaligned

/-- The address SWP uses for both accesses (R100, R483): a misaligned one faults when A or U is 1. -/
def swapAddress (s : State) (a : Word) : Exec Word :=
  if low2 a = 0 then .ok a
  else if s.alignA || s.alignU then .error .dataAbort
  else .ok (wordBase a)

/-! ### Addressing Modes 4 and 5 -/

/-- `start_address` and the written-back value of Addressing Mode 4 for `bytes` bytes (R451). -/
def mode4 (am : Mode4) (base : Word) (bytes : Nat) : Word × Word :=
  let n := BitVec.ofNat 32 bytes
  match am with
  | .ia => (base, base + n)
  | .ib => (base + 4, base + n)
  | .da => (base - n + 4, base - n)
  | .db => (base - n, base - n)

/-- The first address the words of a multiple transfer use (R100 rows "multiple" and "return state"): bits 1:0 are
ignored with U = A = 0, else a misaligned start is an alignment fault. -/
def multipleStart (s : State) (start : Word) : Exec Word :=
  if low2 start = 0 then .ok start
  else if s.alignA || s.alignU then .error .dataAbort
  else .ok (wordBase start)

/-- Steps 4 to 6 of R452: the alignment of the start address, the fault of a transfer that crosses 0xFFFFFFFF (R114),
and the map check of every word before any access. -/
def blockStart (s : State) (start : Word) (words : Nat) : Exec Word := do
  let a ← multipleStart s start
  if 2 ^ 32 < a.toNat + 4 * words then .error (.fault .transferWrap)
  else do
    checkWords s a words
    pure a

/-- `start_address` and the write-back of Addressing Mode 5 (R530); R15 with write-back is UNPREDICTABLE. -/
def address5 (s : State) (am : Mode5) (rn : Reg) (off : BitVec 8) : Exec Access := do
  require (!(am.w && rn == 15)) .pcWriteback
  let base := s.readReg rn
  let offset := 4 * zext off
  pure (match am with
    | .offset up => ⟨indexed up base offset, none⟩
    | .pre up => ⟨indexed up base offset, some (indexed up base offset)⟩
    | .post up => ⟨base, some (indexed up base offset)⟩
    | .unindexed => ⟨base, none⟩)

end Sys2Proof.Machine
end

