-- ==== Sys2Proof/Machine/Coprocessor.lean ====
section
/-! DEFINITION. Machine/Coprocessor.lean: the coprocessor instructions (49_coprocessor). What a present coprocessor does
is given by functions of `Config` of its number, its state and the whole instruction word (R533). -/

namespace Sys2Proof.Machine

/-! ### Shared operations -/

/-- `accepts` and `count` of R533 in the processor mode of the number `mode`: how many words a transfer of `w` moves, if
the coprocessor in the state `u` accepts `w`. -/
def CoprocUnit.words (u : CoprocUnit) (mode : BitVec 5) (w : Word) : Option Nat :=
  (u.accepts.find? (fun p => w &&& p.mask == p.value && (p.mode.isNone || p.mode == some mode))).map
    (fun p => p.moreWords + 1)

/-- What an instruction that names a coprocessor the model is not given does (R9, R532): coprocessors 14 and 15 are
mandatory at ARMv6 and not described, a refusal; every other one is absent, Undefined Instruction. -/
def absentCoproc (s : State) (cp : BitVec 4) : Stop :=
  if s.isV6 && decide (14 ≤ cp.toNat) then .refuse (.coprocessorUndescribed cp.toNat) else .undefinedInstruction

/-- R532: a coprocessor that is absent or does not accept the word raises Undefined Instruction; else its own state and
the words of a transfer. -/
def askCoproc (s : State) (cp : BitVec 4) (w : Word) : Exec (CoprocUnit × Nat) :=
  match s.coproc[cp.toFin] with
  | .absent => .error (absentCoproc s cp)
  | .present u =>
    match u.words (psrMode s.cpsr) w with
    | none => .error .undefinedInstruction
    | some n => .ok (u, n)

/-- Coprocessor `cp` in the new state `u`. -/
def State.setCoproc (s : State) (cp : BitVec 4) (u : CoprocUnit) : State :=
  { s with coproc := s.coproc.set cp.toFin (.present u) }

/-- CDP after its condition (R534). -/
def cdpBody (s : State) (cp : BitVec 4) (w : Word) : Exec State := do
  let (u, _) ← askCoproc s cp w
  advance (s.setCoproc cp (Config.coprocCdp cp.toNat u w))

/-- LDC after its condition (R531, R535). -/
def ldcBody (s : State) (am : Mode5) (rn : Reg) (cp : BitVec 4) (off : BitVec 8) (w : Word) : Exec State := do
  let acc ← address5 s am rn off
  let (u, n) ← askCoproc s cp w
  let a ← multipleStart s acc.address
  checkWords s a n
  let vs ← memWords s a n
  advance ((s.setCoproc cp (Config.coprocLdc cp.toNat u w vs)).writeBack rn acc.writeback)

/-- The words an STC stores, lowest address first (R533). -/
def stcWords (cp : BitVec 4) (u : CoprocUnit) (w : Word) (n : Nat) : List Word :=
  (List.range n).map (Config.coprocStcWord cp.toNat u w)

/-- STC after its condition (R531, R536). -/
def stcBody (s : State) (am : Mode5) (rn : Reg) (cp : BitVec 4) (off : BitVec 8) (w : Word) : Exec State := do
  let acc ← address5 s am rn off
  let (u, n) ← askCoproc s cp w
  let a ← multipleStart s acc.address
  checkWords s a n
  advance (((s.storeWords a (stcWords cp u w n)).setCoproc cp (Config.coprocStcState cp.toNat u w)).writeBack rn
    acc.writeback)

/-- MCR after its condition (R537). -/
def mcrBody (s : State) (rd : Reg) (cp : BitVec 4) (w : Word) : Exec State := do
  require (rd != 15) .r15Operand
  let (u, _) ← askCoproc s cp w
  advance (s.setCoproc cp (Config.coprocMcr cp.toNat u w (s.readReg rd)))

/-- The register checks of MCRR and MRRC (R538, R540). -/
def checkPair (rn rd : Reg) : Exec Unit := do
  require (rd != 15 && rn != 15) .r15Operand
  require (rn != rd) .sameRegister

/-- MCRR after its condition (R538). -/
def mcrrBody (s : State) (rn rd : Reg) (cp : BitVec 4) (w : Word) : Exec State := do
  checkPair rn rd
  let (u, _) ← askCoproc s cp w
  advance (s.setCoproc cp (Config.coprocMcrr cp.toNat u w (s.readReg rd) (s.readReg rn)))

/-- MRC after its condition (R539): R15 as `Rd` sets the condition flags instead. -/
def mrcBody (s : State) (rd : Reg) (cp : BitVec 4) (w : Word) : Exec State := do
  let (u, _) ← askCoproc s cp w
  let r := Config.coprocMrc cp.toNat u w
  let t := s.setCoproc cp r.2
  if rd = 15 then
    advance (t.setNZCV (r.1.getLsbD 31) (r.1.getLsbD 30) (r.1.getLsbD 29) (r.1.getLsbD 28))
  else advance (t.writeReg rd r.1)

/-- MRRC after its condition (R540). -/
def mrrcBody (s : State) (rn rd : Reg) (cp : BitVec 4) (w : Word) : Exec State := do
  checkPair rn rd
  let (u, _) ← askCoproc s cp w
  let r := Config.coprocMrrc cp.toNat u w
  advance (((s.setCoproc cp r.2.2).writeReg rd r.1).writeReg rn r.2.1)

/-! ### The instructions; the forms with a 2 are unconditional (R541) -/

/-- CDP (R534). -/
def execCdp (c : Cond) (op1 : BitVec 4) (crn crd : Reg) (cp : BitVec 4) (op2 : BitVec 3) (crm : Reg) (s : State) : Out :=
  finish s (conditional c s (cdpBody s cp (encode (.cdp c op1 crn crd cp op2 crm))))

/-- CDP2 (R534). -/
def execCdp2 (op1 : BitVec 4) (crn crd : Reg) (cp : BitVec 4) (op2 : BitVec 3) (crm : Reg) (s : State) : Out :=
  finish s (cdpBody s cp (encode (.cdp2 op1 crn crd cp op2 crm)))

/-- LDC (R535). -/
def execLdc (c : Cond) (am : Mode5) (long : Bool) (rn crd : Reg) (cp : BitVec 4) (off : BitVec 8) (s : State) : Out :=
  finish s (conditional c s (ldcBody s am rn cp off (encode (.ldc c am long rn crd cp off))))

/-- LDC2 (R535). -/
def execLdc2 (am : Mode5) (long : Bool) (rn crd : Reg) (cp : BitVec 4) (off : BitVec 8) (s : State) : Out :=
  finish s (ldcBody s am rn cp off (encode (.ldc2 am long rn crd cp off)))

/-- STC (R536). -/
def execStc (c : Cond) (am : Mode5) (long : Bool) (rn crd : Reg) (cp : BitVec 4) (off : BitVec 8) (s : State) : Out :=
  finish s (conditional c s (stcBody s am rn cp off (encode (.stc c am long rn crd cp off))))

/-- STC2 (R536). -/
def execStc2 (am : Mode5) (long : Bool) (rn crd : Reg) (cp : BitVec 4) (off : BitVec 8) (s : State) : Out :=
  finish s (stcBody s am rn cp off (encode (.stc2 am long rn crd cp off)))

/-- MCR (R537). -/
def execMcr (c : Cond) (op1 : BitVec 3) (crn rd : Reg) (cp : BitVec 4) (op2 : BitVec 3) (crm : Reg) (s : State) : Out :=
  finish s (conditional c s (mcrBody s rd cp (encode (.mcr c op1 crn rd cp op2 crm))))

/-- MCR2 (R537). -/
def execMcr2 (op1 : BitVec 3) (crn rd : Reg) (cp : BitVec 4) (op2 : BitVec 3) (crm : Reg) (s : State) : Out :=
  finish s (mcrBody s rd cp (encode (.mcr2 op1 crn rd cp op2 crm)))

/-- MCRR (R538). -/
def execMcrr (c : Cond) (rn rd : Reg) (cp opc : BitVec 4) (crm : Reg) (s : State) : Out :=
  finish s (conditional c s (mcrrBody s rn rd cp (encode (.mcrr c rn rd cp opc crm))))

/-- MCRR2 (R538). -/
def execMcrr2 (rn rd : Reg) (cp opc : BitVec 4) (crm : Reg) (s : State) : Out :=
  finish s (mcrrBody s rn rd cp (encode (.mcrr2 rn rd cp opc crm)))

/-- MRC (R539). -/
def execMrc (c : Cond) (op1 : BitVec 3) (crn rd : Reg) (cp : BitVec 4) (op2 : BitVec 3) (crm : Reg) (s : State) : Out :=
  finish s (conditional c s (mrcBody s rd cp (encode (.mrc c op1 crn rd cp op2 crm))))

/-- MRC2 (R539). -/
def execMrc2 (op1 : BitVec 3) (crn rd : Reg) (cp : BitVec 4) (op2 : BitVec 3) (crm : Reg) (s : State) : Out :=
  finish s (mrcBody s rd cp (encode (.mrc2 op1 crn rd cp op2 crm)))

/-- MRRC (R540). -/
def execMrrc (c : Cond) (rn rd : Reg) (cp opc : BitVec 4) (crm : Reg) (s : State) : Out :=
  finish s (conditional c s (mrrcBody s rn rd cp (encode (.mrrc c rn rd cp opc crm))))

/-- MRRC2 (R540). -/
def execMrrc2 (rn rd : Reg) (cp opc : BitVec 4) (crm : Reg) (s : State) : Out :=
  finish s (mrrcBody s rn rd cp (encode (.mrrc2 rn rd cp opc crm)))

end Sys2Proof.Machine
end

