-- ==== Sys2Proof/Machine/DataProcessing.lean ====
section
/-! DEFINITION. Machine/DataProcessing.lean: the data-processing instructions (40_data_processing). -/

namespace Sys2Proof.Machine

/-- The end of an instruction whose `Rd` is R15 (R201): with S the SPSR becomes the CPSR first, and the pc takes the
result; in ARM state bits 1:0 of it must be 00, in Thumb state bit 0 must be 0 (R48). -/
def writeAluPc (s : State) (sf : Bool) (value : Word) : Exec State :=
  if sf then do
    let x ← currentSpsr s
    let t ← returnCpsr s x
    if t.bitT && value.getLsbD 0 then unpredictable .misalignedPc
    else if t.bitT || t.bitJ then pure { t with pc := value }
    else branchArm t value
  else branchArm s value

/-- The end of an instruction that writes `Rd` (R201): a general register and, with S, the flags; or the pc. -/
def writeAlu (s : State) (sf : Bool) (rd : Reg) (value : Word) (flags : State → State) : Exec State :=
  if rd = 15 then writeAluPc s sf value
  else advance (if sf then flags (s.writeReg rd value) else s.writeReg rd value)

/-- An instruction of the arithmetic class that writes `Rd` (R201, R202). -/
def arithOp (c : Cond) (sf : Bool) (rn rd : Reg) (op : Operand2) (s : State) (f : Word → Word → Bool → AluOut) : Out :=
  finish s (conditional c s do
    require (operand2Allowed [rn, rd] op) .r15Operand
    let r := f (s.readReg rn) (shifterOperand s op).1 s.flagC
    writeAlu s sf rd r.value (fun t => t.setArithFlags r))

/-- An instruction of the logical class that writes `Rd` (R201); `sources` are the registers it reads but for the
shifter's. -/
def logicOp (c : Cond) (sf : Bool) (sources : List Reg) (rd : Reg) (op : Operand2) (s : State) (f : Word → Word) : Out :=
  finish s (conditional c s do
    require (operand2Allowed (rd :: sources) op) .r15Operand
    let (y, carry) := shifterOperand s op
    writeAlu s sf rd (f y) (fun t => t.setLogicFlags (f y) carry))

/-- A test of the arithmetic class, CMP or CMN (R203). -/
def arithTest (c : Cond) (rn : Reg) (op : Operand2) (s : State) (f : Word → Word → AluOut) : Out :=
  finish s (conditional c s do
    require (operand2Allowed [rn] op) .r15Operand
    advance (s.setArithFlags (f (s.readReg rn) (shifterOperand s op).1)))

/-- A test of the logical class, TST or TEQ (R203). -/
def logicTest (c : Cond) (rn : Reg) (op : Operand2) (s : State) (f : Word → Word → Word) : Out :=
  finish s (conditional c s do
    require (operand2Allowed [rn] op) .r15Operand
    let (y, carry) := shifterOperand s op
    advance (s.setLogicFlags (f (s.readReg rn) y) carry))

/-- ADC (R204). -/
def execAdc (c : Cond) (sf : Bool) (rn rd : Reg) (op : Operand2) (s : State) : Out :=
  arithOp c sf rn rd op s (fun x y cin => aluAdd x y cin)

/-- ADD (R205). -/
def execAdd (c : Cond) (sf : Bool) (rn rd : Reg) (op : Operand2) (s : State) : Out :=
  arithOp c sf rn rd op s (fun x y _ => aluAdd x y false)

/-- RSB (R216). -/
def execRsb (c : Cond) (sf : Bool) (rn rd : Reg) (op : Operand2) (s : State) : Out :=
  arithOp c sf rn rd op s (fun x y _ => aluSub y x true)

/-- RSC (R217). -/
def execRsc (c : Cond) (sf : Bool) (rn rd : Reg) (op : Operand2) (s : State) : Out :=
  arithOp c sf rn rd op s (fun x y cin => aluSub y x cin)

/-- SBC (R218). -/
def execSbc (c : Cond) (sf : Bool) (rn rd : Reg) (op : Operand2) (s : State) : Out :=
  arithOp c sf rn rd op s (fun x y cin => aluSub x y cin)

/-- SUB (R219). -/
def execSub (c : Cond) (sf : Bool) (rn rd : Reg) (op : Operand2) (s : State) : Out :=
  arithOp c sf rn rd op s (fun x y _ => aluSub x y true)

/-- AND (R206). -/
def execAnd (c : Cond) (sf : Bool) (rn rd : Reg) (op : Operand2) (s : State) : Out :=
  logicOp c sf [rn] rd op s (fun y => s.readReg rn &&& y)

/-- BIC (R207). -/
def execBic (c : Cond) (sf : Bool) (rn rd : Reg) (op : Operand2) (s : State) : Out :=
  logicOp c sf [rn] rd op s (fun y => s.readReg rn &&& ~~~ y)

/-- EOR (R212). -/
def execEor (c : Cond) (sf : Bool) (rn rd : Reg) (op : Operand2) (s : State) : Out :=
  logicOp c sf [rn] rd op s (fun y => s.readReg rn ^^^ y)

/-- ORR (R215). -/
def execOrr (c : Cond) (sf : Bool) (rn rd : Reg) (op : Operand2) (s : State) : Out :=
  logicOp c sf [rn] rd op s (fun y => s.readReg rn ||| y)

/-- MOV (R213). -/
def execMov (c : Cond) (sf : Bool) (rd : Reg) (op : Operand2) (s : State) : Out :=
  logicOp c sf [] rd op s (fun y => y)

/-- MVN (R214). -/
def execMvn (c : Cond) (sf : Bool) (rd : Reg) (op : Operand2) (s : State) : Out :=
  logicOp c sf [] rd op s (fun y => ~~~ y)

/-- CPY (R211): MOV with no flag setting and no shift. -/
def execCpy (c : Cond) (rd rm : Reg) (s : State) : Out :=
  finish s (conditional c s (writeAlu s false rd (s.readReg rm) id))

/-- CMN (R209). -/
def execCmn (c : Cond) (rn : Reg) (op : Operand2) (s : State) : Out :=
  arithTest c rn op s (fun x y => aluAdd x y false)

/-- CMP (R210). -/
def execCmp (c : Cond) (rn : Reg) (op : Operand2) (s : State) : Out :=
  arithTest c rn op s (fun x y => aluSub x y true)

/-- TEQ (R220). -/
def execTeq (c : Cond) (rn : Reg) (op : Operand2) (s : State) : Out :=
  logicTest c rn op s (fun x y => x ^^^ y)

/-- TST (R221). -/
def execTst (c : Cond) (rn : Reg) (op : Operand2) (s : State) : Out :=
  logicTest c rn op s (fun x y => x &&& y)

/-- The number of zero bits above the first one bit (R208): how many of the right shifts by 0 to 31 leave 0, all 32 for 0
itself. -/
def leadingZeros (x : Word) : Nat := ((List.range 32).filter (fun i => x >>> i == 0)).length

/-- CLZ (R208). -/
def execClz (c : Cond) (rd rm : Reg) (s : State) : Out :=
  finish s (conditional c s do
    require (rd != 15 && rm != 15) .r15Operand
    advance (s.writeReg rd (BitVec.ofNat 32 (leadingZeros (s.readReg rm)))))

end Sys2Proof.Machine
end

