-- ==== Sys2Proof/Machine/LoadStore.lean ====
section
/-! DEFINITION. Machine/LoadStore.lean: the single loads and stores and PLD (45_load_store). Each follows the order of
R408: condition, decode checks, address, alignment, access, write-back, destination. -/

namespace Sys2Proof.Machine

/-! ### Shared operations -/

/-- Writes back the base, then `Rd` with the data loaded, and moves on (steps 6 and 7 of R408). -/
def endLoad (s : State) (rn rd : Reg) (a : Access) (data : Word) : Exec State :=
  advance ((s.writeBack rn a.writeback).writeReg rd data)

/-- Writes back the base and moves on (step 6 of R408). -/
def endStore (s : State) (rn : Reg) (a : Access) : Exec State := advance (s.writeBack rn a.writeback)

/-- The checks every load but LDR, and every byte or halfword store, makes on `Rd`: not R15, and not the base when the
base is written back (R411, R412, R414 to R417, R420, R421, R423). -/
def checkDest (writes : Bool) (rn rd : Reg) : Exec Unit := do
  require (rd != 15) .r15Operand
  require (!(writes && rd == rn)) .sameRegister

/-- A byte load after its address is known: the byte extended by `extend` (R411, R412, R415). -/
def loadByteTo (s : State) (rn rd : Reg) (a : Access) (extend : Byte → Word) : Exec State := do
  let v ← memByte s a.address
  endLoad s rn rd a (extend v)

/-- A halfword load after its address is known (R414, R416). -/
def loadHalfTo (s : State) (rn rd : Reg) (a : Access) (extend : Half → Word) : Exec State := do
  let v ← loadHalf s a.address
  endLoad s rn rd a (extend v)

/-- A word store after its address is known (R419, R424): R15 stores an IMPLEMENTATION DEFINED value. -/
def storeWordFrom (s : State) (rn rd : Reg) (a : Access) : Exec State := do
  let addr ← storeWordAddress s a.address
  let t ← memWriteWord s addr (s.storedReg s.mode rd)
  endStore t rn a

/-- A byte store after its address is known (R420, R421). -/
def storeByteFrom (s : State) (rn rd : Reg) (a : Access) : Exec State := do
  let t ← memWrite s a.address [byteOf (s.readReg rd) 0]
  endStore t rn a

/-- The checks of a doubleword transfer on `Rd` and the base (R413, R422): an odd `Rd` is UNDEFINED, R14 would name R15.
That an odd `Rd` comes before every UNPREDICTABLE operand or form of the instruction is a choice between R413 and R422,
which test it first, and R586, which lists UNPREDICTABLE first (DESIGN CHOICE, log entry 38). -/
def checkDouble (writes : Bool) (rn rd : Reg) : Exec Unit :=
  if rd.getLsbD 0 then .error .undefinedInstruction
  else do
    require (rd != 14) .r15Operand
    require (!(writes && (rn == rd || rn == rd + 1))) .sameRegister

/-- Whether the index register of an offset is one of the pair `Rd`, `Rd + 1` (R413). -/
def offsetInPair (rd : Reg) (off : Offset3) : Bool := offset3Reg off == some rd || offset3Reg off == some (rd + 1)

/-! ### Loads -/

/-- LDR (R410): a load of the pc must be word-aligned and selects the state as BX does from ARMv5T. -/
def execLdr (c : Cond) (ix : Index2) (up : Bool) (rn rd : Reg) (off : Offset2) (s : State) : Out :=
  finish s (conditional c s do
    require (!(Index2.writes ix && rd == rn)) .sameRegister
    let a ← address2 s ix up rn off
    if rd = 15 && !s.alignA && low2 a.address != 0 then unpredictable .misaligned
    else do
      let data ← loadWord s a.address
      if rd = 15 then loadPc (s.writeBack rn a.writeback) data else endLoad s rn rd a data)

/-- LDRB (R411). -/
def execLdrb (c : Cond) (ix : Index2) (up : Bool) (rn rd : Reg) (off : Offset2) (s : State) : Out :=
  finish s (conditional c s do
    checkDest (Index2.writes ix) rn rd
    let a ← address2 s ix up rn off
    loadByteTo s rn rd a zext)

/-- LDRBT (R412): post-indexed; the model has no protection, so the access is an ordinary one. -/
def execLdrbt (c : Cond) (up : Bool) (rn rd : Reg) (off : Offset2) (s : State) : Out :=
  finish s (conditional c s do
    checkDest true rn rd
    let a ← address2 s .post up rn off
    loadByteTo s rn rd a zext)

/-- LDRD (R413). -/
def execLdrd (c : Cond) (ix : Index3) (up : Bool) (rn rd : Reg) (off : Offset3) (s : State) : Out :=
  finish s (conditional c s do
    checkDouble (Index3.writes ix) rn rd
    require (!offsetInPair rd off) .sameRegister
    let a ← address3 s ix up rn off
    let (lo, hi) ← loadDouble s a.address
    endLoad (s.writeReg rd lo) rn (rd + 1) a hi)

/-- LDRH (R414). -/
def execLdrh (c : Cond) (ix : Index3) (up : Bool) (rn rd : Reg) (off : Offset3) (s : State) : Out :=
  finish s (conditional c s do
    checkDest (Index3.writes ix) rn rd
    let a ← address3 s ix up rn off
    loadHalfTo s rn rd a zext)

/-- LDRSB (R415). -/
def execLdrsb (c : Cond) (ix : Index3) (up : Bool) (rn rd : Reg) (off : Offset3) (s : State) : Out :=
  finish s (conditional c s do
    checkDest (Index3.writes ix) rn rd
    let a ← address3 s ix up rn off
    loadByteTo s rn rd a sext)

/-- LDRSH (R416). -/
def execLdrsh (c : Cond) (ix : Index3) (up : Bool) (rn rd : Reg) (off : Offset3) (s : State) : Out :=
  finish s (conditional c s do
    checkDest (Index3.writes ix) rn rd
    let a ← address3 s ix up rn off
    loadHalfTo s rn rd a sext)

/-- LDRT (R417): post-indexed; an ordinary access, as LDRBT. -/
def execLdrt (c : Cond) (up : Bool) (rn rd : Reg) (off : Offset2) (s : State) : Out :=
  finish s (conditional c s do
    checkDest true rn rd
    let a ← address2 s .post up rn off
    let data ← loadWord s a.address
    endLoad s rn rd a data)

/-- PLD (R418): no change to the state but the pc; R15 as the offset register is UNPREDICTABLE (R404). -/
def execPld (_up : Bool) (_rn : Reg) (off : Offset2) (s : State) : Out :=
  finish s do
    require (offset2Reg off != some 15) .r15Operand
    advance s

/-! ### Stores -/

/-- STR (R419). -/
def execStr (c : Cond) (ix : Index2) (up : Bool) (rn rd : Reg) (off : Offset2) (s : State) : Out :=
  finish s (conditional c s do
    require (!(Index2.writes ix && rd == rn)) .sameRegister
    let a ← address2 s ix up rn off
    storeWordFrom s rn rd a)

/-- STRB (R420). -/
def execStrb (c : Cond) (ix : Index2) (up : Bool) (rn rd : Reg) (off : Offset2) (s : State) : Out :=
  finish s (conditional c s do
    checkDest (Index2.writes ix) rn rd
    let a ← address2 s ix up rn off
    storeByteFrom s rn rd a)

/-- STRBT (R421): post-indexed; an ordinary access, as LDRBT. -/
def execStrbt (c : Cond) (up : Bool) (rn rd : Reg) (off : Offset2) (s : State) : Out :=
  finish s (conditional c s do
    checkDest true rn rd
    let a ← address2 s .post up rn off
    storeByteFrom s rn rd a)

/-- STRD (R422): both words are checked before either is written. -/
def execStrd (c : Cond) (ix : Index3) (up : Bool) (rn rd : Reg) (off : Offset3) (s : State) : Out :=
  finish s (conditional c s do
    checkDouble (Index3.writes ix) rn rd
    let a ← address3 s ix up rn off
    checkDoubleAligned s a.address
    checkWords s a.address 2
    endStore (s.storeWords a.address [s.readReg rd, s.readReg (rd + 1)]) rn a)

/-- STRH (R423). -/
def execStrh (c : Cond) (ix : Index3) (up : Bool) (rn rd : Reg) (off : Offset3) (s : State) : Out :=
  finish s (conditional c s do
    checkDest (Index3.writes ix) rn rd
    let a ← address3 s ix up rn off
    checkHalfStore s a.address
    let t ← memWrite s a.address (halfBytes s.bigEndianData (halfOf (s.readReg rd) false))
    endStore t rn a)

/-- STRT (R424): post-indexed, the base never `Rd`; an ordinary access, as LDRBT. -/
def execStrt (c : Cond) (up : Bool) (rn rd : Reg) (off : Offset2) (s : State) : Out :=
  finish s (conditional c s do
    require (rd != rn) .sameRegister
    let a ← address2 s .post up rn off
    storeWordFrom s rn rd a)

end Sys2Proof.Machine
end

