-- ==== Sys2Proof/Machine/LoadStoreMultiple.lean ====
section
/-! DEFINITION. Machine/LoadStoreMultiple.lean: LDM, STM, RFE and SRS (46_load_store_multiple). Each follows the order of
R452: condition, decode checks, address, alignment, map, accesses, write-back, registers. -/

namespace Sys2Proof.Machine

/-! ### Shared operations -/

/-- The registers of a list, the lowest number first (R450). -/
def listRegs (list : BitVec 16) : List Reg := ((List.range 16).filter (fun i => list.getLsbD i)).map (BitVec.ofNat 4)

/-- The decode checks of R452: the base is not R15 and the list is not empty. -/
def checkList (rn : Reg) (list : BitVec 16) : Exec Unit := do
  require (rn != 15) .r15Operand
  require (list != 0) .emptyList

/-- `start_address` and the write-back of a list (R451), before the alignment. -/
def listAddress (s : State) (am : Mode4) (rn : Reg) (list : BitVec 16) : Word × Word :=
  mode4 am (s.readReg rn) (4 * (listRegs list).length)

/-- Steps 3 to 7 of R452 for a load: the words, lowest address first, and the value to write back. -/
def loadBlock (s : State) (am : Mode4) (rn : Reg) (list : BitVec 16) : Exec (List Word × Word) := do
  let n := (listRegs list).length
  let a ← blockStart s (listAddress s am rn list).1 n
  let vs ← memWords s a n
  pure (vs, (listAddress s am rn list).2)

/-- Steps 3 to 7 of R452 for a store of `vs`, one word for each register of the list. -/
def storeBlock (s : State) (am : Mode4) (rn : Reg) (list : BitVec 16) (vs : List Word) : Exec State := do
  let a ← blockStart s (listAddress s am rn list).1 (listRegs list).length
  pure (s.storeWords a vs)

namespace State

/-- The registers of a list but R15 written in mode `m` (R453 to R455). -/
def writeRegs (s : State) (m : Mode) : List (Reg × Word) → State
  | [] => s
  | (r, v) :: rest => (s.writeRegIn m r v).writeRegs m rest

/-- The base after an LDM with the base in its list: with write-back "the final value of <Rn> is UNPREDICTABLE"
(R633), a free value (log entry 6). -/
def freeBase (s : State) (wb : Bool) (rn : Reg) (list : BitVec 16) : State :=
  if wb && list.getLsbD rn.toNat then (s.writeReg rn s.free).drawn else s

/-- The write-back of a multiple transfer (step 8 of R452). -/
def writeBaseIf (s : State) (wb : Bool) (rn : Reg) (v : Word) : State := if wb then s.writeReg rn v else s

/-- The state in which R630 forbids the next instruction a banked register: only before ARMv6. -/
def armHazard (s : State) : State := if s.isV6 then s else { s with bankHazard := .armed }

end State

/-- The registers and the base after the words of an LDM of the current mode are read (steps 8 and 9 of R452). -/
def endLoadBlock (s : State) (wb : Bool) (rn : Reg) (list : BitVec 16) (vs : List Word) (base : Word) : State :=
  (((s.writeBaseIf wb rn base).writeRegs s.mode ((listRegs list).zip vs))).freeBase wb rn list

/-- The word STM (1) stores for one register of its list (R456): with write-back and the base in the list but not lowest,
"the stored value of <Rn> is UNPREDICTABLE", a free value (log entry 7). -/
def stmWord (s : State) (wb : Bool) (rn : Reg) (list : BitVec 16) (r : Reg) : Word :=
  if wb && r == rn && (listRegs list).head? != some rn then s.free else s.storedReg s.mode r

/-- The state after the free value of an STM (1), if it took one (R456). -/
def stmDrawn (s : State) (wb : Bool) (rn : Reg) (list : BitVec 16) : State :=
  if wb && list.getLsbD rn.toNat && (listRegs list).head? != some rn then s.drawn else s

/-! ### The instructions -/

/-- LDM (1) (R453): with the pc in the list, a branch that interworks from ARMv5T. -/
def execLdm1 (c : Cond) (am : Mode4) (wb : Bool) (rn : Reg) (list : BitVec 16) (s : State) : Out :=
  finish s (conditional c s do
    checkList rn list
    let (vs, base) ← loadBlock s am rn list
    let t := endLoadBlock s wb rn list vs base
    if list.getLsbD 15 then loadPc t (vs.getLastD 0) else advance t)

/-- LDM (2) (R454): the User mode registers; the base is the current mode's. -/
def execLdm2 (c : Cond) (am : Mode4) (rn : Reg) (list : BitVec 15) (s : State) : Out :=
  finish s (conditional c s do
    checkList rn (list.setWidth 16)
    require s.mode.hasSpsr .noSpsr
    let (vs, _) ← loadBlock s am rn (list.setWidth 16)
    advance (s.writeRegs .usr ((listRegs (list.setWidth 16)).zip vs)).armHazard)

/-- LDM (3) (R455): the registers go to the bank of the mode before the return, then the SPSR becomes the CPSR and the
pc takes the last word. -/
def execLdm3 (c : Cond) (am : Mode4) (wb : Bool) (rn : Reg) (list : BitVec 15) (s : State) : Out :=
  finish s (conditional c s do
    let full := withBit (list.setWidth 16) 15 true
    checkList rn full
    let psr ← currentSpsr s
    let (vs, base) ← loadBlock s am rn full
    let t ← returnCpsr (endLoadBlock s wb rn full vs base) psr
    returnTo t (vs.getLastD 0))

/-- STM (1) (R456). -/
def execStm1 (c : Cond) (am : Mode4) (wb : Bool) (rn : Reg) (list : BitVec 16) (s : State) : Out :=
  finish s (conditional c s do
    checkList rn list
    let t ← storeBlock s am rn list ((listRegs list).map (stmWord s wb rn list))
    advance (stmDrawn (t.writeBaseIf wb rn (listAddress s am rn list).2) wb rn list))

/-- STM (2) (R457): the User mode registers; the base is the current mode's. -/
def execStm2 (c : Cond) (am : Mode4) (rn : Reg) (list : BitVec 16) (s : State) : Out :=
  finish s (conditional c s do
    checkList rn list
    require s.mode.hasSpsr .noSpsr
    let t ← storeBlock s am rn list ((listRegs list).map (s.storedReg .usr))
    advance t.armHazard)

/-- RFE (R458): the pc and the CPSR from two words; UNPREDICTABLE in User mode. -/
def execRfe (am : Mode4) (wb : Bool) (rn : Reg) (s : State) : Out :=
  finish s do
    require (rn != 15) .r15Operand
    require s.mode.privileged .userMode
    let (start, base) := mode4 am (s.readReg rn) 8
    let a ← blockStart s start 2
    let value ← memWord s a
    let psr ← memWord s (a + 4)
    let t ← returnCpsr (s.writeBaseIf wb rn base) psr
    returnTo t value

/-- SRS (R459): R14 and the SPSR of the current mode to the stack of the mode named. -/
def execSrs (am : Mode4) (wb : Bool) (mode : BitVec 5) (s : State) : Out :=
  finish s do
    let psr ← currentSpsr s
    match Mode.ofCode mode with
    | none => unpredictable .reservedMode
    | some m => do
      let (start, base) := mode4 am (s.readRegIn m 13) 8
      let a ← blockStart s start 2
      let t := s.storeWords a [s.readReg 14, psr]
      advance (if wb then t.writeRegIn m 13 base else t)

end Sys2Proof.Machine
end

