-- ==== Sys2Proof/Machine/Multiply.lean ====
section
/-! DEFINITION. Machine/Multiply.lean: the multiply instructions (41_multiply). Products and sums are exact integers,
narrowed when a register is written. -/

namespace Sys2Proof.Machine

/-! ### Shared operations -/

/-- R240 (a): R15 as any of the registers is UNPREDICTABLE. -/
def requireNoPc (rs : List Reg) : Exec Unit := require (rs.all (fun r => r != 15)) .r15Operand

/-- R244: before ARMv6 the destinations must differ from `Rm`. -/
def requireNotRm (s : State) (dests : List Reg) (rm : Reg) : Exec Unit :=
  require (s.isV6 || dests.all (fun r => r != rm)) .sameRegister

/-- The flags of MULS and MLAS: N and Z, and before ARMv5 an UNPREDICTABLE C (R243), a free value (log entry 5). -/
def State.setMulFlags (s : State) (n z : Bool) : State :=
  if s.arch.atLeastV5 then s.setNZ n z
  else ((s.setNZ n z).setCpsrBit 29 (s.free.getLsbD 0)).drawn

/-- The flags of the long multiplies with S: N and Z, and before ARMv5 UNPREDICTABLE C and V (R243), free values (log
entry 5). -/
def State.setMulLongFlags (s : State) (n z : Bool) : State :=
  if s.arch.atLeastV5 then s.setNZ n z
  else (((s.setNZ n z).setCpsrBit 29 (s.free.getLsbD 0)).setCpsrBit 28 (s.free.getLsbD 1)).drawn

/-- A multiply with a 32-bit result (R245, R246): `sources` are the registers besides `Rd`. -/
def mulOp (c : Cond) (sf : Bool) (rd : Reg) (sources : List Reg) (rm : Reg) (s : State) (value : Word) : Out :=
  finish s (conditional c s do
    requireNoPc (rd :: sources)
    requireNotRm s [rd] rm
    let t := s.writeReg rd value
    advance (if sf then t.setMulFlags (value.getLsbD 31) (value == 0) else t))

/-- `RdHi : RdLo` as one 64-bit value. -/
def regPair (s : State) (hi lo : Reg) : BitVec 64 := s.readReg hi ++ s.readReg lo

/-- Writes a 64-bit value to `RdHi` and `RdLo`. -/
def writePair (s : State) (hi lo : Reg) (r : BitVec 64) : State :=
  (s.writeReg lo (r.extractLsb' 0 32)).writeReg hi (r.extractLsb' 32 32)

/-- A multiply with a 64-bit result (R249, R260, R264, R265). -/
def mulLongOp (c : Cond) (sf : Bool) (rdHi rdLo rs rm : Reg) (s : State) (r : BitVec 64) : Out :=
  finish s (conditional c s do
    requireNoPc [rdHi, rdLo, rs, rm]
    require (rdHi != rdLo) .sameRegister
    requireNotRm s [rdHi, rdLo] rm
    let t := writePair s rdHi rdLo r
    advance (if sf then t.setMulLongFlags (r.getLsbD 63) (r == 0) else t))

/-- A 64-bit multiply with no restriction on `Rm` and no flags (R250, R251, R254, R263). -/
def mulLongNoFlags (c : Cond) (rdHi rdLo rs rm : Reg) (s : State) (r : BitVec 64) : Out :=
  finish s (conditional c s do
    requireNoPc [rdHi, rdLo, rs, rm]
    require (rdHi != rdLo) .sameRegister
    advance (writePair s rdHi rdLo r))

/-- A multiply that writes the low word of an exact integer to `Rd` and sets Q when it does not fit 32 signed bits
(R247, R248, R252, R253, R258). -/
def mulQ (c : Cond) (rd : Reg) (sources : List Reg) (s : State) (exact : Int) : Out :=
  finish s (conditional c s do
    requireNoPc (rd :: sources)
    advance ((s.writeReg rd (toWord exact)).stickQ (overflows exact)))

/-- A multiply that writes `Rd` and no flag. -/
def mulPlain (c : Cond) (rd : Reg) (sources : List Reg) (s : State) (value : Word) : Out :=
  finish s (conditional c s do
    requireNoPc (rd :: sources)
    advance (s.writeReg rd value))

/-- `operand1 * operand2` of R241: a half of `Rm` times a half of `Rs`, signed. -/
def halfProduct (s : State) (rm rs : Reg) (x y : Bool) : Int :=
  (halfOf (s.readReg rm) x).toInt * (halfOf (s.readReg rs) y).toInt

/-- Bits 47:16 of `Rm` times a half of `Rs`, signed (R252, R261). -/
def wordHalfProduct (s : State) (rm rs : Reg) (y : Bool) : Int :=
  ((s.readReg rm).toInt * (halfOf (s.readReg rs) y).toInt) / 2 ^ 16

/-- `product1` of R242: the bottom half of `Rm` times the bottom half of `Rs`, or the top half with X. -/
def dualProduct1 (s : State) (rm rs : Reg) (x : Bool) : Int :=
  (halfOf (s.readReg rm) false).toInt * (halfOf (s.readReg rs) x).toInt

/-- `product2` of R242: the top half of `Rm` times the top half of `Rs`, or the bottom half with X. -/
def dualProduct2 (s : State) (rm rs : Reg) (x : Bool) : Int :=
  (halfOf (s.readReg rm) true).toInt * (halfOf (s.readReg rs) (!x)).toInt

/-- `sint(R[m]) * sint(R[s])`. -/
def signedProduct (s : State) (rm rs : Reg) : Int := (s.readReg rm).toInt * (s.readReg rs).toInt

/-- `R[m] * R[s]`, unsigned. -/
def unsignedProduct (s : State) (rm rs : Reg) : Nat := (s.readReg rm).toNat * (s.readReg rs).toNat

/-- The rounding constant of the most-significant-word multiplies (R255). -/
def roundingConstant (r : Bool) : Int := if r then 0x80000000 else 0

/-- Bits 63:32 of an exact integer taken modulo 2^64 (R255 to R257). -/
def highWord (v : Int) : Word := (BitVec.ofInt 64 v).extractLsb' 32 32

/-! ### The instructions -/

/-- MLA (R245). -/
def execMla (c : Cond) (sf : Bool) (rd rn rs rm : Reg) (s : State) : Out :=
  mulOp c sf rd [rn, rs, rm] rm s (BitVec.ofNat 32 (unsignedProduct s rm rs + (s.readReg rn).toNat))

/-- MUL (R246). -/
def execMul (c : Cond) (sf : Bool) (rd rs rm : Reg) (s : State) : Out :=
  mulOp c sf rd [rs, rm] rm s (BitVec.ofNat 32 (unsignedProduct s rm rs))

/-- SMLA<x><y> (R247). -/
def execSmlaxy (c : Cond) (rd rn rs : Reg) (y x : Bool) (rm : Reg) (s : State) : Out :=
  mulQ c rd [rn, rs, rm] s ((s.readReg rn).toInt + halfProduct s rm rs x y)

/-- SMLAD (R248). -/
def execSmlad (c : Cond) (rd rn rs : Reg) (x : Bool) (rm : Reg) (s : State) : Out :=
  mulQ c rd [rs, rm] s ((s.readReg rn).toInt + dualProduct1 s rm rs x + dualProduct2 s rm rs x)

/-- SMLAL (R249). -/
def execSmlal (c : Cond) (sf : Bool) (rdHi rdLo rs rm : Reg) (s : State) : Out :=
  mulLongOp c sf rdHi rdLo rs rm s (regPair s rdHi rdLo + BitVec.ofInt 64 (signedProduct s rm rs))

/-- SMLAL<x><y> (R250). -/
def execSmlalxy (c : Cond) (rdHi rdLo rs : Reg) (y x : Bool) (rm : Reg) (s : State) : Out :=
  mulLongNoFlags c rdHi rdLo rs rm s (regPair s rdHi rdLo + BitVec.ofInt 64 (halfProduct s rm rs x y))

/-- SMLALD (R251). -/
def execSmlald (c : Cond) (rdHi rdLo rs : Reg) (x : Bool) (rm : Reg) (s : State) : Out :=
  mulLongNoFlags c rdHi rdLo rs rm s
    (regPair s rdHi rdLo + BitVec.ofInt 64 (dualProduct1 s rm rs x + dualProduct2 s rm rs x))

/-- SMLAW<y> (R252). -/
def execSmlawy (c : Cond) (rd rn rs : Reg) (y : Bool) (rm : Reg) (s : State) : Out :=
  mulQ c rd [rn, rs, rm] s (wordHalfProduct s rm rs y + (s.readReg rn).toInt)

/-- SMLSD (R253). -/
def execSmlsd (c : Cond) (rd rn rs : Reg) (x : Bool) (rm : Reg) (s : State) : Out :=
  mulQ c rd [rs, rm] s ((s.readReg rn).toInt + (dualProduct1 s rm rs x - dualProduct2 s rm rs x))

/-- SMLSLD (R254). -/
def execSmlsld (c : Cond) (rdHi rdLo rs : Reg) (x : Bool) (rm : Reg) (s : State) : Out :=
  mulLongNoFlags c rdHi rdLo rs rm s
    (regPair s rdHi rdLo + BitVec.ofInt 64 (dualProduct1 s rm rs x - dualProduct2 s rm rs x))

/-- SMMLA (R255). -/
def execSmmla (c : Cond) (rd rn rs : Reg) (r : Bool) (rm : Reg) (s : State) : Out :=
  mulPlain c rd [rs, rm] s
    (highWord ((s.readReg rn).toNat * 2 ^ 32 + signedProduct s rm rs + roundingConstant r))

/-- SMMLS (R256). -/
def execSmmls (c : Cond) (rd rn rs : Reg) (r : Bool) (rm : Reg) (s : State) : Out :=
  mulPlain c rd [rn, rs, rm] s
    (highWord ((s.readReg rn).toNat * 2 ^ 32 - signedProduct s rm rs + roundingConstant r))

/-- SMMUL (R257). -/
def execSmmul (c : Cond) (rd rs : Reg) (r : Bool) (rm : Reg) (s : State) : Out :=
  mulPlain c rd [rs, rm] s (highWord (signedProduct s rm rs + roundingConstant r))

/-- SMUAD (R258). -/
def execSmuad (c : Cond) (rd rs : Reg) (x : Bool) (rm : Reg) (s : State) : Out :=
  mulQ c rd [rs, rm] s (dualProduct1 s rm rs x + dualProduct2 s rm rs x)

/-- SMUL<x><y> (R259). -/
def execSmulxy (c : Cond) (rd rs : Reg) (y x : Bool) (rm : Reg) (s : State) : Out :=
  mulPlain c rd [rs, rm] s (toWord (halfProduct s rm rs x y))

/-- SMULL (R260). -/
def execSmull (c : Cond) (sf : Bool) (rdHi rdLo rs rm : Reg) (s : State) : Out :=
  mulLongOp c sf rdHi rdLo rs rm s (BitVec.ofInt 64 (signedProduct s rm rs))

/-- SMULW<y> (R261). -/
def execSmulwy (c : Cond) (rd rs : Reg) (y : Bool) (rm : Reg) (s : State) : Out :=
  mulPlain c rd [rs, rm] s (toWord (wordHalfProduct s rm rs y))

/-- SMUSD (R262). -/
def execSmusd (c : Cond) (rd rs : Reg) (x : Bool) (rm : Reg) (s : State) : Out :=
  mulPlain c rd [rs, rm] s (toWord (dualProduct1 s rm rs x - dualProduct2 s rm rs x))

/-- UMAAL (R263). -/
def execUmaal (c : Cond) (rdHi rdLo rs rm : Reg) (s : State) : Out :=
  mulLongNoFlags c rdHi rdLo rs rm s
    (BitVec.ofNat 64 (unsignedProduct s rm rs + (s.readReg rdLo).toNat + (s.readReg rdHi).toNat))

/-- UMLAL (R264). -/
def execUmlal (c : Cond) (sf : Bool) (rdHi rdLo rs rm : Reg) (s : State) : Out :=
  mulLongOp c sf rdHi rdLo rs rm s (regPair s rdHi rdLo + BitVec.ofNat 64 (unsignedProduct s rm rs))

/-- UMULL (R265). -/
def execUmull (c : Cond) (sf : Bool) (rdHi rdLo rs rm : Reg) (s : State) : Out :=
  mulLongOp c sf rdHi rdLo rs rm s (BitVec.ofNat 64 (unsignedProduct s rm rs))

end Sys2Proof.Machine
end

