-- ==== Sys2Proof/Machine/Media.lean ====
section
/-! DEFINITION. Machine/Media.lean: saturating arithmetic, saturate, pack, byte-reverse and extend
(43_saturate_pack_extend). -/

namespace Sys2Proof.Machine

/-! ### Shared operations -/

/-- An instruction of this file that writes `Rd` and sets Q when `q` (R340). -/
def satOp (c : Cond) (rd : Reg) (sources : List Reg) (s : State) (value : Word) (q : Bool) : Out :=
  finish s (conditional c s do
    requireNoPc (rd :: sources)
    advance ((s.writeReg rd value).stickQ q))

/-- `2 * Rn`, exact (R346, R347). -/
def doubled (s : State) (rn : Reg) : Int := 2 * (s.readReg rn).toInt

/-- The shifted operand of SSAT and USAT (R341). -/
def satOperand (s : State) (isAsr : Bool) (amount : BitVec 5) (rm : Reg) : Int :=
  (if isAsr then asr (s.readReg rm) (if amount = 0 then 32 else amount.toNat)
   else s.readReg rm <<< amount.toNat).toInt

/-- The rotated operand of the extend instructions (R342). -/
def extendOperand (s : State) (rot : BitVec 2) (rm : Reg) : Word := rotr (s.readReg rm) (8 * rot.toNat)

/-- Bytes 2 and 0 of a word, each extended to a halfword (R355, R363). -/
def extendBytes (signed : Bool) (x : Word) : Word :=
  if signed then ofHalves ((byteOf x 2).signExtend 16) ((byteOf x 0).signExtend 16)
  else ofHalves ((byteOf x 2).setWidth 16) ((byteOf x 0).setWidth 16)

/-- The halves of two words added with no carry between them (R355, R363). -/
def addHalves (x y : Word) : Word := ofHalves (halfOf x true + halfOf y true) (halfOf x false + halfOf y false)

/-- An extend instruction, with or without an addend (R340): only `Rd` and `Rm` must not be R15. -/
def extendOp (c : Cond) (rd rm : Reg) (s : State) (value : Word) : Out := mulPlain c rd [rm] s value

/-! ### Pack -/

/-- PKHBT (R343). -/
def execPkhbt (c : Cond) (rn rd : Reg) (sh : BitVec 5) (rm : Reg) (s : State) : Out :=
  mulPlain c rd [rn, rm] s (ofHalves (halfOf (s.readReg rm <<< sh.toNat) true) (halfOf (s.readReg rn) false))

/-- PKHTB (R344): a shift of 0 encodes 32. -/
def execPkhtb (c : Cond) (rn rd : Reg) (sh : BitVec 5) (rm : Reg) (s : State) : Out :=
  mulPlain c rd [rn, rm] s
    (ofHalves (halfOf (s.readReg rn) true) (halfOf (asr (s.readReg rm) (if sh = 0 then 32 else sh.toNat)) false))

/-! ### Saturating arithmetic -/

/-- QADD (R345). -/
def execQadd (c : Cond) (rn rd rm : Reg) (s : State) : Out :=
  let x := (s.readReg rm).toInt + (s.readReg rn).toInt
  satOp c rd [rn, rm] s (toWord (signedSat x 32)) (signedDoesSat x 32)

/-- QDADD (R346). -/
def execQdadd (c : Cond) (rn rd rm : Reg) (s : State) : Out :=
  let x := (s.readReg rm).toInt + signedSat (doubled s rn) 32
  satOp c rd [rn, rm] s (toWord (signedSat x 32)) (signedDoesSat x 32 || signedDoesSat (doubled s rn) 32)

/-- QDSUB (R347). -/
def execQdsub (c : Cond) (rn rd rm : Reg) (s : State) : Out :=
  let x := (s.readReg rm).toInt - signedSat (doubled s rn) 32
  satOp c rd [rn, rm] s (toWord (signedSat x 32)) (signedDoesSat x 32 || signedDoesSat (doubled s rn) 32)

/-- QSUB (R348). -/
def execQsub (c : Cond) (rn rd rm : Reg) (s : State) : Out :=
  let x := (s.readReg rm).toInt - (s.readReg rn).toInt
  satOp c rd [rn, rm] s (toWord (signedSat x 32)) (signedDoesSat x 32)

/-! ### Byte reverse -/

/-- REV (R349). -/
def execRev (c : Cond) (rd rm : Reg) (s : State) : Out :=
  let x := s.readReg rm
  mulPlain c rd [rm] s (ofBytes (byteOf x 0) (byteOf x 1) (byteOf x 2) (byteOf x 3))

/-- REV16 (R350). -/
def execRev16 (c : Cond) (rd rm : Reg) (s : State) : Out :=
  let x := s.readReg rm
  mulPlain c rd [rm] s (ofBytes (byteOf x 2) (byteOf x 3) (byteOf x 0) (byteOf x 1))

/-- REVSH (R351): the reversed low halfword, its sign in bits 31:16. -/
def execRevsh (c : Cond) (rd rm : Reg) (s : State) : Out :=
  let x := s.readReg rm
  mulPlain c rd [rm] s (sext (byteOf x 0 ++ byteOf x 1))

/-! ### Saturate -/

/-- SSAT (R352). -/
def execSsat (c : Cond) (sat : BitVec 5) (rd : Reg) (amount : BitVec 5) (isAsr : Bool) (rm : Reg) (s : State) : Out :=
  let x := satOperand s isAsr amount rm
  satOp c rd [rm] s (toWord (signedSat x (sat.toNat + 1))) (signedDoesSat x (sat.toNat + 1))

/-- SSAT16 (R353). -/
def execSsat16 (c : Cond) (sat : BitVec 4) (rd rm : Reg) (s : State) : Out :=
  let hi := (halfOf (s.readReg rm) true).toInt
  let lo := (halfOf (s.readReg rm) false).toInt
  let n := sat.toNat + 1
  satOp c rd [rm] s (ofHalves (BitVec.ofInt 16 (signedSat hi n)) (BitVec.ofInt 16 (signedSat lo n)))
    (signedDoesSat lo n || signedDoesSat hi n)

/-- USAT (R360). -/
def execUsat (c : Cond) (sat : BitVec 5) (rd : Reg) (amount : BitVec 5) (isAsr : Bool) (rm : Reg) (s : State) : Out :=
  let x := satOperand s isAsr amount rm
  satOp c rd [rm] s (toWord (unsignedSat x sat.toNat)) (unsignedDoesSat x sat.toNat)

/-- USAT16 (R361): each half read as signed. -/
def execUsat16 (c : Cond) (sat : BitVec 4) (rd rm : Reg) (s : State) : Out :=
  let hi := (halfOf (s.readReg rm) true).toInt
  let lo := (halfOf (s.readReg rm) false).toInt
  let n := sat.toNat
  satOp c rd [rm] s (ofHalves (BitVec.ofInt 16 (unsignedSat hi n)) (BitVec.ofInt 16 (unsignedSat lo n)))
    (unsignedDoesSat lo n || unsignedDoesSat hi n)

/-! ### Extend -/

/-- SXTAB (R354). -/
def execSxtab (c : Cond) (rn rd : Reg) (rot : BitVec 2) (rm : Reg) (s : State) : Out :=
  extendOp c rd rm s (s.readReg rn + sext (byteOf (extendOperand s rot rm) 0))

/-- SXTAB16 (R355). -/
def execSxtab16 (c : Cond) (rn rd : Reg) (rot : BitVec 2) (rm : Reg) (s : State) : Out :=
  extendOp c rd rm s (addHalves (s.readReg rn) (extendBytes true (extendOperand s rot rm)))

/-- SXTAH (R356). -/
def execSxtah (c : Cond) (rn rd : Reg) (rot : BitVec 2) (rm : Reg) (s : State) : Out :=
  extendOp c rd rm s (s.readReg rn + sext (halfOf (extendOperand s rot rm) false))

/-- SXTB (R357). -/
def execSxtb (c : Cond) (rd : Reg) (rot : BitVec 2) (rm : Reg) (s : State) : Out :=
  extendOp c rd rm s (sext (byteOf (extendOperand s rot rm) 0))

/-- SXTB16 (R358). -/
def execSxtb16 (c : Cond) (rd : Reg) (rot : BitVec 2) (rm : Reg) (s : State) : Out :=
  extendOp c rd rm s (extendBytes true (extendOperand s rot rm))

/-- SXTH (R359). -/
def execSxth (c : Cond) (rd : Reg) (rot : BitVec 2) (rm : Reg) (s : State) : Out :=
  extendOp c rd rm s (sext (halfOf (extendOperand s rot rm) false))

/-- UXTAB (R362). -/
def execUxtab (c : Cond) (rn rd : Reg) (rot : BitVec 2) (rm : Reg) (s : State) : Out :=
  extendOp c rd rm s (s.readReg rn + zext (byteOf (extendOperand s rot rm) 0))

/-- UXTAB16 (R363). -/
def execUxtab16 (c : Cond) (rn rd : Reg) (rot : BitVec 2) (rm : Reg) (s : State) : Out :=
  extendOp c rd rm s (addHalves (s.readReg rn) (extendBytes false (extendOperand s rot rm)))

/-- UXTAH (R364). -/
def execUxtah (c : Cond) (rn rd : Reg) (rot : BitVec 2) (rm : Reg) (s : State) : Out :=
  extendOp c rd rm s (s.readReg rn + zext (halfOf (extendOperand s rot rm) false))

/-- UXTB (R365). -/
def execUxtb (c : Cond) (rd : Reg) (rot : BitVec 2) (rm : Reg) (s : State) : Out :=
  extendOp c rd rm s (zext (byteOf (extendOperand s rot rm) 0))

/-- UXTB16 (R366). -/
def execUxtb16 (c : Cond) (rd : Reg) (rot : BitVec 2) (rm : Reg) (s : State) : Out :=
  extendOp c rd rm s (extendBytes false (extendOperand s rot rm))

/-- UXTH (R367). -/
def execUxth (c : Cond) (rd : Reg) (rot : BitVec 2) (rm : Reg) (s : State) : Out :=
  extendOp c rd rm s (zext (halfOf (extendOperand s rot rm) false))

end Sys2Proof.Machine
end

