-- ==== Sys2Proof/Machine/Parallel.lean ====
section
/-! DEFINITION. Machine/Parallel.lean: parallel add and subtract, SEL and the sums of absolute differences
(42_parallel_addsub). -/

namespace Sys2Proof.Machine

/-! ### Shared operations -/

/-- The six kinds of lane arithmetic (R280): signed and unsigned, each plain, saturating or halving. -/
inductive LaneKind where
  | s | q | sh | u | uq | uh
  deriving DecidableEq, Repr

/-- Whether the lanes are read as signed (R280). -/
def laneSigned : LaneKind → Bool
  | .s => true
  | .q => true
  | .sh => true
  | .u => false
  | .uq => false
  | .uh => false

/-- The exact result `r` of a lane of `w` bits as the kind keeps it, before it is narrowed (R281, R284). -/
def laneKeep (k : LaneKind) (w : Nat) (r : Int) : Int :=
  match k with
  | .s => r
  | .u => r
  | .q => signedSat r w
  | .uq => unsignedSat r w
  | .sh => r / 2
  | .uh => r / 2

/-- The exact result of a lane (R281). -/
def laneExact (k : LaneKind) (minus : Bool) (x y : BitVec w) : Int :=
  if minus then intOf (laneSigned k) x - intOf (laneSigned k) y else intOf (laneSigned k) x + intOf (laneSigned k) y

/-- The result field of a lane (R281). -/
def laneValue (k : LaneKind) (minus : Bool) (x y : BitVec w) : BitVec w :=
  BitVec.ofInt w (laneKeep k w (laneExact k minus x y))

/-- The GE bit of a lane: signed, the exact result is not negative (R282); unsigned, a carry out of the sum or no borrow
of the difference (R283). -/
def laneGe (k : LaneKind) (minus : Bool) (x y : BitVec w) : Bool :=
  if laneSigned k || minus then decide (0 ≤ laneExact k minus x y) else decide (2 ^ w ≤ laneExact k minus x y)

/-- Whether the kind writes the GE flags (R280). -/
def laneSetsGe : LaneKind → Bool
  | .s => true
  | .u => true
  | .q => false
  | .sh => false
  | .uq => false
  | .uh => false

/-- GE[3:0] from a bit for each byte lane, the highest first. -/
def geBits (g3 g2 g1 g0 : Bool) : BitVec 4 := BitVec.ofBool g3 ++ BitVec.ofBool g2 ++ BitVec.ofBool g1 ++ BitVec.ofBool g0

/-- A result and the GE bits that go with it. -/
structure LaneOut where
  value : Word
  ge : BitVec 4
  deriving DecidableEq, Repr

/-- Two 16-bit lanes (R280): the high lane works on `y1` and the low lane on `y0`, halves of `Rm`; each lane owns two GE
bits (R282). -/
def halfLanes (k : LaneKind) (minusHi minusLo : Bool) (x : Word) (y1 y0 : Half) : LaneOut where
  value := ofHalves (laneValue k minusHi (halfOf x true) y1) (laneValue k minusLo (halfOf x false) y0)
  ge := geBits (laneGe k minusHi (halfOf x true) y1) (laneGe k minusHi (halfOf x true) y1)
    (laneGe k minusLo (halfOf x false) y0) (laneGe k minusLo (halfOf x false) y0)

/-- ADD16 (R280). -/
def add16 (k : LaneKind) (x y : Word) : LaneOut := halfLanes k false false x (halfOf y true) (halfOf y false)

/-- SUB16 (R280). -/
def sub16 (k : LaneKind) (x y : Word) : LaneOut := halfLanes k true true x (halfOf y true) (halfOf y false)

/-- ADDSUBX (R280): the halves of the second operand exchanged, sum above, difference below. -/
def addSubX (k : LaneKind) (x y : Word) : LaneOut := halfLanes k false true x (halfOf y false) (halfOf y true)

/-- SUBADDX (R280): the halves of the second operand exchanged, difference above, sum below. -/
def subAddX (k : LaneKind) (x y : Word) : LaneOut := halfLanes k true false x (halfOf y false) (halfOf y true)

/-- Four 8-bit lanes (R280): lane `i` owns GE[i] (R282). -/
def byteLanes (k : LaneKind) (minus : Bool) (x y : Word) : LaneOut where
  value := ofBytes (laneValue k minus (byteOf x 3) (byteOf y 3)) (laneValue k minus (byteOf x 2) (byteOf y 2))
    (laneValue k minus (byteOf x 1) (byteOf y 1)) (laneValue k minus (byteOf x 0) (byteOf y 0))
  ge := geBits (laneGe k minus (byteOf x 3) (byteOf y 3)) (laneGe k minus (byteOf x 2) (byteOf y 2))
    (laneGe k minus (byteOf x 1) (byteOf y 1)) (laneGe k minus (byteOf x 0) (byteOf y 0))

/-- ADD8 (R280). -/
def add8 (k : LaneKind) (x y : Word) : LaneOut := byteLanes k false x y

/-- SUB8 (R280). -/
def sub8 (k : LaneKind) (x y : Word) : LaneOut := byteLanes k true x y

/-- The common execution of the thirty-six (R281): only the S and U kinds write GE (R285). -/
def parallelOp (k : LaneKind) (op : LaneKind → Word → Word → LaneOut) (c : Cond) (rn rd rm : Reg) (s : State) : Out :=
  finish s (conditional c s do
    requireNoPc [rd, rn, rm]
    let r := op k (s.readReg rn) (s.readReg rm)
    let t := s.writeReg rd r.value
    advance (if laneSetsGe k then t.setGE r.ge else t))

/-- Byte `i` of `x` or of `y`, as a GE bit says (R295). -/
def selectByte (ge : BitVec 4) (x y : Word) (i : Nat) : Byte := if ge.getLsbD i then byteOf x i else byteOf y i

/-- The absolute difference of two unsigned bytes (R320). -/
def byteDistance (x y : Byte) : Nat := if x.toNat < y.toNat then y.toNat - x.toNat else x.toNat - y.toNat

/-- The sum of the four absolute differences (R320). -/
def sumOfDistances (x y : Word) : Nat :=
  byteDistance (byteOf x 0) (byteOf y 0) + byteDistance (byteOf x 1) (byteOf y 1)
    + byteDistance (byteOf x 2) (byteOf y 2) + byteDistance (byteOf x 3) (byteOf y 3)

/-! ### The instructions -/

/-- QADD16 (R286). -/
def execQadd16 (c : Cond) (rn rd rm : Reg) (s : State) : Out := parallelOp .q add16 c rn rd rm s

/-- QADD8 (R287). -/
def execQadd8 (c : Cond) (rn rd rm : Reg) (s : State) : Out := parallelOp .q add8 c rn rd rm s

/-- QADDSUBX (R288). -/
def execQaddsubx (c : Cond) (rn rd rm : Reg) (s : State) : Out := parallelOp .q addSubX c rn rd rm s

/-- QSUB16 (R289). -/
def execQsub16 (c : Cond) (rn rd rm : Reg) (s : State) : Out := parallelOp .q sub16 c rn rd rm s

/-- QSUB8 (R290). -/
def execQsub8 (c : Cond) (rn rd rm : Reg) (s : State) : Out := parallelOp .q sub8 c rn rd rm s

/-- QSUBADDX (R291). -/
def execQsubaddx (c : Cond) (rn rd rm : Reg) (s : State) : Out := parallelOp .q subAddX c rn rd rm s

/-- SADD16 (R292). -/
def execSadd16 (c : Cond) (rn rd rm : Reg) (s : State) : Out := parallelOp .s add16 c rn rd rm s

/-- SADD8 (R293). -/
def execSadd8 (c : Cond) (rn rd rm : Reg) (s : State) : Out := parallelOp .s add8 c rn rd rm s

/-- SADDSUBX (R294). -/
def execSaddsubx (c : Cond) (rn rd rm : Reg) (s : State) : Out := parallelOp .s addSubX c rn rd rm s

/-- SHADD16 (R296). -/
def execShadd16 (c : Cond) (rn rd rm : Reg) (s : State) : Out := parallelOp .sh add16 c rn rd rm s

/-- SHADD8 (R297). -/
def execShadd8 (c : Cond) (rn rd rm : Reg) (s : State) : Out := parallelOp .sh add8 c rn rd rm s

/-- SHADDSUBX (R298). -/
def execShaddsubx (c : Cond) (rn rd rm : Reg) (s : State) : Out := parallelOp .sh addSubX c rn rd rm s

/-- SHSUB16 (R299). -/
def execShsub16 (c : Cond) (rn rd rm : Reg) (s : State) : Out := parallelOp .sh sub16 c rn rd rm s

/-- SHSUB8 (R300). -/
def execShsub8 (c : Cond) (rn rd rm : Reg) (s : State) : Out := parallelOp .sh sub8 c rn rd rm s

/-- SHSUBADDX (R301). -/
def execShsubaddx (c : Cond) (rn rd rm : Reg) (s : State) : Out := parallelOp .sh subAddX c rn rd rm s

/-- SSUB16 (R302). -/
def execSsub16 (c : Cond) (rn rd rm : Reg) (s : State) : Out := parallelOp .s sub16 c rn rd rm s

/-- SSUB8 (R303). -/
def execSsub8 (c : Cond) (rn rd rm : Reg) (s : State) : Out := parallelOp .s sub8 c rn rd rm s

/-- SSUBADDX (R304). -/
def execSsubaddx (c : Cond) (rn rd rm : Reg) (s : State) : Out := parallelOp .s subAddX c rn rd rm s

/-- UADD16 (R305). -/
def execUadd16 (c : Cond) (rn rd rm : Reg) (s : State) : Out := parallelOp .u add16 c rn rd rm s

/-- UADD8 (R306). -/
def execUadd8 (c : Cond) (rn rd rm : Reg) (s : State) : Out := parallelOp .u add8 c rn rd rm s

/-- UADDSUBX (R307). -/
def execUaddsubx (c : Cond) (rn rd rm : Reg) (s : State) : Out := parallelOp .u addSubX c rn rd rm s

/-- UHADD16 (R308). -/
def execUhadd16 (c : Cond) (rn rd rm : Reg) (s : State) : Out := parallelOp .uh add16 c rn rd rm s

/-- UHADD8 (R309). -/
def execUhadd8 (c : Cond) (rn rd rm : Reg) (s : State) : Out := parallelOp .uh add8 c rn rd rm s

/-- UHADDSUBX (R310). -/
def execUhaddsubx (c : Cond) (rn rd rm : Reg) (s : State) : Out := parallelOp .uh addSubX c rn rd rm s

/-- UHSUB16 (R311). -/
def execUhsub16 (c : Cond) (rn rd rm : Reg) (s : State) : Out := parallelOp .uh sub16 c rn rd rm s

/-- UHSUB8 (R312). -/
def execUhsub8 (c : Cond) (rn rd rm : Reg) (s : State) : Out := parallelOp .uh sub8 c rn rd rm s

/-- UHSUBADDX (R313). -/
def execUhsubaddx (c : Cond) (rn rd rm : Reg) (s : State) : Out := parallelOp .uh subAddX c rn rd rm s

/-- UQADD16 (R314). -/
def execUqadd16 (c : Cond) (rn rd rm : Reg) (s : State) : Out := parallelOp .uq add16 c rn rd rm s

/-- UQADD8 (R315). -/
def execUqadd8 (c : Cond) (rn rd rm : Reg) (s : State) : Out := parallelOp .uq add8 c rn rd rm s

/-- UQADDSUBX (R316). -/
def execUqaddsubx (c : Cond) (rn rd rm : Reg) (s : State) : Out := parallelOp .uq addSubX c rn rd rm s

/-- UQSUB16 (R317). -/
def execUqsub16 (c : Cond) (rn rd rm : Reg) (s : State) : Out := parallelOp .uq sub16 c rn rd rm s

/-- UQSUB8 (R318). -/
def execUqsub8 (c : Cond) (rn rd rm : Reg) (s : State) : Out := parallelOp .uq sub8 c rn rd rm s

/-- UQSUBADDX (R319). -/
def execUqsubaddx (c : Cond) (rn rd rm : Reg) (s : State) : Out := parallelOp .uq subAddX c rn rd rm s

/-- USUB16 (R322). -/
def execUsub16 (c : Cond) (rn rd rm : Reg) (s : State) : Out := parallelOp .u sub16 c rn rd rm s

/-- USUB8 (R323). -/
def execUsub8 (c : Cond) (rn rd rm : Reg) (s : State) : Out := parallelOp .u sub8 c rn rd rm s

/-- USUBADDX (R324). -/
def execUsubaddx (c : Cond) (rn rd rm : Reg) (s : State) : Out := parallelOp .u subAddX c rn rd rm s

/-- SEL (R295). -/
def execSel (c : Cond) (rn rd rm : Reg) (s : State) : Out :=
  finish s (conditional c s do
    requireNoPc [rd, rn, rm]
    let byte := selectByte s.flagsGE (s.readReg rn) (s.readReg rm)
    advance (s.writeReg rd (ofBytes (byte 3) (byte 2) (byte 1) (byte 0))))

/-- USAD8 (R320). -/
def execUsad8 (c : Cond) (rd rs rm : Reg) (s : State) : Out :=
  mulPlain c rd [rm, rs] s (BitVec.ofNat 32 (sumOfDistances (s.readReg rm) (s.readReg rs)))

/-- USADA8 (R321); `Rn` = R15 is USAD8. -/
def execUsada8 (c : Cond) (rd rn rs rm : Reg) (s : State) : Out :=
  mulPlain c rd [rm, rs] s (s.readReg rn + BitVec.ofNat 32 (sumOfDistances (s.readReg rm) (s.readReg rs)))

end Sys2Proof.Machine
end

