-- ==== Sys2Proof/Machine/Status.lean ====
section
/-! DEFINITION. Machine/Status.lean: MRS, MSR, CPS, SETEND, SWI and BKPT (48_status_system). -/

namespace Sys2Proof.Machine

/-! ### Shared operations -/

/-- `byte_mask` of R502: bit `i` of the field mask selects byte `i`. -/
def byteMask (mask : BitVec 4) : Word :=
  (if mask.getLsbD 0 then 0x000000FF else 0) ||| (if mask.getLsbD 1 then 0x0000FF00 else 0)
    ||| (if mask.getLsbD 2 then 0x00FF0000 else 0) ||| (if mask.getLsbD 3 then 0xFF000000 else 0)

/-- `old` with the bits under `mask` taken from `operand`. -/
def underMask (old operand mask : Word) : Word := (old &&& ~~~ mask) ||| (operand &&& mask)

/-- The bits of the CPSR an MSR writes (R502): in User mode only the `UserMask` bits. -/
def msrCpsrMask (s : State) (mask : BitVec 4) : Word :=
  if s.mode.privileged then byteMask mask &&& ((psrMasks s.arch).user ||| (psrMasks s.arch).priv)
  else byteMask mask &&& (psrMasks s.arch).user

/-- The bits of the SPSR an MSR writes (R502). -/
def msrSpsrMask (s : State) (mask : BitVec 4) : Word :=
  byteMask mask &&& ((psrMasks s.arch).user ||| (psrMasks s.arch).priv ||| (psrMasks s.arch).state)

/-- MSR to the CPSR after its operand is known (R502). -/
def msrCpsr (s : State) (mask : BitVec 4) (operand : Word) : Exec State := do
  require (!(s.mode.privileged && operand &&& (psrMasks s.arch).state != 0)) .stateBits
  let new := underMask s.cpsr operand (msrCpsrMask s mask)
  require (Mode.ofCode (psrMode new)).isSome .reservedMode
  advance (s.setCpsr new)

/-- MSR to the SPSR of the current mode after its operand is known (R502). -/
def msrSpsr (s : State) (mask : BitVec 4) (operand : Word) : Exec State := do
  let old ← currentSpsr s
  let bits := msrSpsrMask s mask
  let new := underMask old operand bits
  require (psrMode bits == 0 || (Mode.ofCode (psrMode new)).isSome) .reservedMode
  advance { s with spsr := s.spsr.set s.mode new }

/-- MSR (R502): an operand with a reserved bit set is UNPREDICTABLE, whatever the field mask selects. -/
def msrOp (s : State) (r : Bool) (mask : BitVec 4) (operand : Word) : Exec State := do
  require (operand &&& (psrMasks s.arch).unalloc == 0) .reservedPsrBits
  if r then msrSpsr s mask operand else msrCpsr s mask operand

/-! ### The instructions -/

/-- MRS (R501). -/
def execMrs (c : Cond) (r : Bool) (rd : Reg) (s : State) : Out :=
  finish s (conditional c s do
    require (rd != 15) .r15Operand
    let v ← if r then currentSpsr s else .ok s.cpsr
    advance (s.writeReg rd v))

/-- MSR, immediate (R502). -/
def execMsrImm (c : Cond) (r : Bool) (mask rot : BitVec 4) (imm : BitVec 8) (s : State) : Out :=
  finish s (conditional c s (msrOp s r mask (rotatedImm rot imm)))

/-- MSR, register (R502). -/
def execMsrReg (c : Cond) (r : Bool) (mask : BitVec 4) (rm : Reg) (s : State) : Out :=
  finish s (conditional c s do
    require (rm != 15) .r15Operand
    msrOp s r mask (s.readReg rm))

/-- The combinations of CPS fields that mean something (R505): a mask is changed by some of A, I, F; no flag bit is given
without it; no mode without `mmod`. -/
def cpsAllowed (imod : BitVec 2) (mmod a ib f : Bool) (mode : BitVec 5) : Bool :=
  (if imod.getLsbD 1 then a || ib || f else imod == 0 && mmod && !(a || ib || f)) && (mmod || mode == 0)

/-- The CPSR after CPS in a privileged mode (R505). -/
def cpsResult (x : Word) (imod : BitVec 2) (mmod a ib f : Bool) (mode : BitVec 5) : Word :=
  let change := imod.getLsbD 1
  let x := if change && a then withBit x 8 (imod.getLsbD 0) else x
  let x := if change && ib then withBit x 7 (imod.getLsbD 0) else x
  let x := if change && f then withBit x 6 (imod.getLsbD 0) else x
  if mmod then withField x 0 mode else x

/-- CPS (R505): no effect in User mode. -/
def execCps (imod : BitVec 2) (mmod a ib f : Bool) (mode : BitVec 5) (s : State) : Out :=
  finish s do
    require (cpsAllowed imod mmod a ib f mode) .cpsFields
    if s.mode.privileged then do
      require (!mmod || (Mode.ofCode mode).isSome) .reservedMode
      advance (s.setCpsr (cpsResult s.cpsr imod mmod a ib f mode))
    else advance s

/-- SETEND (R506): E = 1 with CP15_B = 1 is a reserved configuration (R96). -/
def execSetend (e : Bool) (s : State) : Out :=
  finish s (if e && s.params.cp15B then .error (.refuse .reservedByteOrder) else advance (s.setCpsrBit 9 e))

/-- SWI (R507): takes the Software Interrupt exception; the immediate is ignored. -/
def execSwi (c : Cond) (_imm : BitVec 24) (s : State) : Out :=
  if conditionPassed c s then takeException .softwareInterrupt s else finish s (advance s)

/-- BKPT (R508): takes the Prefetch Abort exception unless debug hardware overrides it; the immediate is ignored. -/
def execBkpt (_imm : BitVec 16) (s : State) : Out :=
  if s.params.debugOverride then .refused .debugOverride else takeException .prefetchAbort s

end Sys2Proof.Machine
end

