-- ==== Sys2Proof/Machine/Sync.lean ====
section
/-! DEFINITION. Machine/Sync.lean: LDREX, STREX, SWP and SWPB (47_sync_swap). -/

namespace Sys2Proof.Machine

/-- The state from which an aborted LDREX takes its Data Abort: "it is UNPREDICTABLE whether the MarkExclusiveGlobal() and
MarkExclusiveLocal() operations are executed" (R118, R481), so a free value decides each (log entry 10). -/
def abortedLdrex (s : State) (a : Word) : State :=
  let t := if s.free.getLsbD 0 then s.markGlobal a else s
  (if s.free.getLsbD 1 then t.markLocal a else t).drawn

/-- LDREX (R481). -/
def execLdrex (c : Cond) (rn rd : Reg) (s : State) : Out :=
  finishFrom (abortedLdrex s (s.readReg rn)) s (conditional c s do
    requireNoPc [rd, rn]
    checkExclusive s (s.readReg rn)
    let data ← memWord s (s.readReg rn)
    advance (((s.markGlobal (s.readReg rn)).markLocal (s.readReg rn)).writeReg rd data))

/-- Whether a STREX to `a` stores (R482): the local monitor holds, and for Shared memory the global one too. -/
def strexPasses (s : State) (a : Word) : Bool := s.exclusiveLocal a && (!s.isShared a || s.exclusiveGlobal a)

/-- The memory and the monitors after a STREX that stores (R482). -/
def strexStore (s : State) (a v : Word) : State :=
  if s.isShared a then (s.storeWord a v).clearAfterStrex a else s.storeWord a v

/-- STREX (R482): `Rd` is 0 when it stores and 1 when it does not, and the local monitor opens either way. -/
def execStrex (c : Cond) (rn rd rm : Reg) (s : State) : Out :=
  finish s (conditional c s do
    requireNoPc [rd, rn, rm]
    require (rd != rm && rd != rn) .sameRegister
    checkExclusive s (s.readReg rn)
    checkWords s (s.readReg rn) 1
    if strexPasses s (s.readReg rn) then
      advance ((strexStore s (s.readReg rn) (s.readReg rm)).writeReg rd 0).openLocal
    else advance (s.writeReg rd 1).openLocal)

/-- The register checks of SWP and SWPB (R483, R484). -/
def checkSwap (rn rd rm : Reg) : Exec Unit := do
  requireNoPc [rd, rn, rm]
  require (rn != rm && rn != rd) .sameRegister

/-- SWP (R483): at a misaligned address with A = U = 0 the load rotates as LDR and the store ignores the low bits as
STR. -/
def execSwp (c : Cond) (rn rd rm : Reg) (s : State) : Out :=
  finish s (conditional c s do
    checkSwap rn rd rm
    let a ← swapAddress s (s.readReg rn)
    let v ← memWord s a
    let t ← memWriteWord s a (s.readReg rm)
    advance (t.writeReg rd (rotr v (8 * (low2 (s.readReg rn)).toNat))))

/-- SWPB (R484). -/
def execSwpb (c : Cond) (rn rd rm : Reg) (s : State) : Out :=
  finish s (conditional c s do
    checkSwap rn rd rm
    let v ← memByte s (s.readReg rn)
    let t ← memWrite s (s.readReg rn) [byteOf (s.readReg rm) 0]
    advance (t.writeReg rd (zext v)))

end Sys2Proof.Machine
end

