-- ==== Sys2Proof/Machine/Dispatch.lean ====
section
/-! DEFINITION. Machine/Dispatch.lean: one arm per instruction, in the order of the opcode table. -/

namespace Sys2Proof.Machine

def exec (i : Instr) (s : State) : Host.Outcome State Fault Refusal :=
  match i with
  | .adc c sf rn rd op => Sys2Proof.Machine.execAdc c sf rn rd op s
  | .add c sf rn rd op => Sys2Proof.Machine.execAdd c sf rn rd op s
  | .and c sf rn rd op => Sys2Proof.Machine.execAnd c sf rn rd op s
  | .b c imm => Sys2Proof.Machine.execB c imm s
  | .bic c sf rn rd op => Sys2Proof.Machine.execBic c sf rn rd op s
  | .bkpt imm => Sys2Proof.Machine.execBkpt imm s
  | .bl c imm => Sys2Proof.Machine.execBl c imm s
  | .blx1 h imm => Sys2Proof.Machine.execBlx1 h imm s
  | .blx2 c rm => Sys2Proof.Machine.execBlx2 c rm s
  | .bx c rm => Sys2Proof.Machine.execBx c rm s
  | .bxj c rm => Sys2Proof.Machine.execBxj c rm s
  | .cdp c op1 crn crd cp op2 crm => Sys2Proof.Machine.execCdp c op1 crn crd cp op2 crm s
  | .cdp2 op1 crn crd cp op2 crm => Sys2Proof.Machine.execCdp2 op1 crn crd cp op2 crm s
  | .clz c rd rm => Sys2Proof.Machine.execClz c rd rm s
  | .cmn c rn op => Sys2Proof.Machine.execCmn c rn op s
  | .cmp c rn op => Sys2Proof.Machine.execCmp c rn op s
  | .cps imod mmod a ib f mode => Sys2Proof.Machine.execCps imod mmod a ib f mode s
  | .cpy c rd rm => Sys2Proof.Machine.execCpy c rd rm s
  | .eor c sf rn rd op => Sys2Proof.Machine.execEor c sf rn rd op s
  | .ldc c am long rn crd cp off => Sys2Proof.Machine.execLdc c am long rn crd cp off s
  | .ldc2 am long rn crd cp off => Sys2Proof.Machine.execLdc2 am long rn crd cp off s
  | .ldm1 c am wb rn list => Sys2Proof.Machine.execLdm1 c am wb rn list s
  | .ldm2 c am rn list => Sys2Proof.Machine.execLdm2 c am rn list s
  | .ldm3 c am wb rn list => Sys2Proof.Machine.execLdm3 c am wb rn list s
  | .ldr c ix up rn rd off => Sys2Proof.Machine.execLdr c ix up rn rd off s
  | .ldrb c ix up rn rd off => Sys2Proof.Machine.execLdrb c ix up rn rd off s
  | .ldrbt c up rn rd off => Sys2Proof.Machine.execLdrbt c up rn rd off s
  | .ldrd c ix up rn rd off => Sys2Proof.Machine.execLdrd c ix up rn rd off s
  | .ldrex c rn rd => Sys2Proof.Machine.execLdrex c rn rd s
  | .ldrh c ix up rn rd off => Sys2Proof.Machine.execLdrh c ix up rn rd off s
  | .ldrsb c ix up rn rd off => Sys2Proof.Machine.execLdrsb c ix up rn rd off s
  | .ldrsh c ix up rn rd off => Sys2Proof.Machine.execLdrsh c ix up rn rd off s
  | .ldrt c up rn rd off => Sys2Proof.Machine.execLdrt c up rn rd off s
  | .mcr c op1 crn rd cp op2 crm => Sys2Proof.Machine.execMcr c op1 crn rd cp op2 crm s
  | .mcr2 op1 crn rd cp op2 crm => Sys2Proof.Machine.execMcr2 op1 crn rd cp op2 crm s
  | .mcrr c rn rd cp opc crm => Sys2Proof.Machine.execMcrr c rn rd cp opc crm s
  | .mcrr2 rn rd cp opc crm => Sys2Proof.Machine.execMcrr2 rn rd cp opc crm s
  | .mla c sf rd rn rs rm => Sys2Proof.Machine.execMla c sf rd rn rs rm s
  | .mov c sf rd op => Sys2Proof.Machine.execMov c sf rd op s
  | .mrc c op1 crn rd cp op2 crm => Sys2Proof.Machine.execMrc c op1 crn rd cp op2 crm s
  | .mrc2 op1 crn rd cp op2 crm => Sys2Proof.Machine.execMrc2 op1 crn rd cp op2 crm s
  | .mrrc c rn rd cp opc crm => Sys2Proof.Machine.execMrrc c rn rd cp opc crm s
  | .mrrc2 rn rd cp opc crm => Sys2Proof.Machine.execMrrc2 rn rd cp opc crm s
  | .mrs c r rd => Sys2Proof.Machine.execMrs c r rd s
  | .msrImm c r mask rot imm => Sys2Proof.Machine.execMsrImm c r mask rot imm s
  | .msrReg c r mask rm => Sys2Proof.Machine.execMsrReg c r mask rm s
  | .mul c sf rd rs rm => Sys2Proof.Machine.execMul c sf rd rs rm s
  | .mvn c sf rd op => Sys2Proof.Machine.execMvn c sf rd op s
  | .orr c sf rn rd op => Sys2Proof.Machine.execOrr c sf rn rd op s
  | .pkhbt c rn rd sh rm => Sys2Proof.Machine.execPkhbt c rn rd sh rm s
  | .pkhtb c rn rd sh rm => Sys2Proof.Machine.execPkhtb c rn rd sh rm s
  | .pld up rn off => Sys2Proof.Machine.execPld up rn off s
  | .qadd c rn rd rm => Sys2Proof.Machine.execQadd c rn rd rm s
  | .qadd16 c rn rd rm => Sys2Proof.Machine.execQadd16 c rn rd rm s
  | .qadd8 c rn rd rm => Sys2Proof.Machine.execQadd8 c rn rd rm s
  | .qaddsubx c rn rd rm => Sys2Proof.Machine.execQaddsubx c rn rd rm s
  | .qdadd c rn rd rm => Sys2Proof.Machine.execQdadd c rn rd rm s
  | .qdsub c rn rd rm => Sys2Proof.Machine.execQdsub c rn rd rm s
  | .qsub c rn rd rm => Sys2Proof.Machine.execQsub c rn rd rm s
  | .qsub16 c rn rd rm => Sys2Proof.Machine.execQsub16 c rn rd rm s
  | .qsub8 c rn rd rm => Sys2Proof.Machine.execQsub8 c rn rd rm s
  | .qsubaddx c rn rd rm => Sys2Proof.Machine.execQsubaddx c rn rd rm s
  | .rev c rd rm => Sys2Proof.Machine.execRev c rd rm s
  | .rev16 c rd rm => Sys2Proof.Machine.execRev16 c rd rm s
  | .revsh c rd rm => Sys2Proof.Machine.execRevsh c rd rm s
  | .rfe am wb rn => Sys2Proof.Machine.execRfe am wb rn s
  | .rsb c sf rn rd op => Sys2Proof.Machine.execRsb c sf rn rd op s
  | .rsc c sf rn rd op => Sys2Proof.Machine.execRsc c sf rn rd op s
  | .sadd16 c rn rd rm => Sys2Proof.Machine.execSadd16 c rn rd rm s
  | .sadd8 c rn rd rm => Sys2Proof.Machine.execSadd8 c rn rd rm s
  | .saddsubx c rn rd rm => Sys2Proof.Machine.execSaddsubx c rn rd rm s
  | .sbc c sf rn rd op => Sys2Proof.Machine.execSbc c sf rn rd op s
  | .sel c rn rd rm => Sys2Proof.Machine.execSel c rn rd rm s
  | .setend e => Sys2Proof.Machine.execSetend e s
  | .shadd16 c rn rd rm => Sys2Proof.Machine.execShadd16 c rn rd rm s
  | .shadd8 c rn rd rm => Sys2Proof.Machine.execShadd8 c rn rd rm s
  | .shaddsubx c rn rd rm => Sys2Proof.Machine.execShaddsubx c rn rd rm s
  | .shsub16 c rn rd rm => Sys2Proof.Machine.execShsub16 c rn rd rm s
  | .shsub8 c rn rd rm => Sys2Proof.Machine.execShsub8 c rn rd rm s
  | .shsubaddx c rn rd rm => Sys2Proof.Machine.execShsubaddx c rn rd rm s
  | .smlaxy c rd rn rs y x rm => Sys2Proof.Machine.execSmlaxy c rd rn rs y x rm s
  | .smlad c rd rn rs x rm => Sys2Proof.Machine.execSmlad c rd rn rs x rm s
  | .smlal c sf rdHi rdLo rs rm => Sys2Proof.Machine.execSmlal c sf rdHi rdLo rs rm s
  | .smlalxy c rdHi rdLo rs y x rm => Sys2Proof.Machine.execSmlalxy c rdHi rdLo rs y x rm s
  | .smlald c rdHi rdLo rs x rm => Sys2Proof.Machine.execSmlald c rdHi rdLo rs x rm s
  | .smlawy c rd rn rs y rm => Sys2Proof.Machine.execSmlawy c rd rn rs y rm s
  | .smlsd c rd rn rs x rm => Sys2Proof.Machine.execSmlsd c rd rn rs x rm s
  | .smlsld c rdHi rdLo rs x rm => Sys2Proof.Machine.execSmlsld c rdHi rdLo rs x rm s
  | .smmla c rd rn rs r rm => Sys2Proof.Machine.execSmmla c rd rn rs r rm s
  | .smmls c rd rn rs r rm => Sys2Proof.Machine.execSmmls c rd rn rs r rm s
  | .smmul c rd rs r rm => Sys2Proof.Machine.execSmmul c rd rs r rm s
  | .smuad c rd rs x rm => Sys2Proof.Machine.execSmuad c rd rs x rm s
  | .smulxy c rd rs y x rm => Sys2Proof.Machine.execSmulxy c rd rs y x rm s
  | .smull c sf rdHi rdLo rs rm => Sys2Proof.Machine.execSmull c sf rdHi rdLo rs rm s
  | .smulwy c rd rs y rm => Sys2Proof.Machine.execSmulwy c rd rs y rm s
  | .smusd c rd rs x rm => Sys2Proof.Machine.execSmusd c rd rs x rm s
  | .srs am wb mode => Sys2Proof.Machine.execSrs am wb mode s
  | .ssat c sat rd amount asr rm => Sys2Proof.Machine.execSsat c sat rd amount asr rm s
  | .ssat16 c sat rd rm => Sys2Proof.Machine.execSsat16 c sat rd rm s
  | .ssub16 c rn rd rm => Sys2Proof.Machine.execSsub16 c rn rd rm s
  | .ssub8 c rn rd rm => Sys2Proof.Machine.execSsub8 c rn rd rm s
  | .ssubaddx c rn rd rm => Sys2Proof.Machine.execSsubaddx c rn rd rm s
  | .stc c am long rn crd cp off => Sys2Proof.Machine.execStc c am long rn crd cp off s
  | .stc2 am long rn crd cp off => Sys2Proof.Machine.execStc2 am long rn crd cp off s
  | .stm1 c am wb rn list => Sys2Proof.Machine.execStm1 c am wb rn list s
  | .stm2 c am rn list => Sys2Proof.Machine.execStm2 c am rn list s
  | .str c ix up rn rd off => Sys2Proof.Machine.execStr c ix up rn rd off s
  | .strb c ix up rn rd off => Sys2Proof.Machine.execStrb c ix up rn rd off s
  | .strbt c up rn rd off => Sys2Proof.Machine.execStrbt c up rn rd off s
  | .strd c ix up rn rd off => Sys2Proof.Machine.execStrd c ix up rn rd off s
  | .strex c rn rd rm => Sys2Proof.Machine.execStrex c rn rd rm s
  | .strh c ix up rn rd off => Sys2Proof.Machine.execStrh c ix up rn rd off s
  | .strt c up rn rd off => Sys2Proof.Machine.execStrt c up rn rd off s
  | .sub c sf rn rd op => Sys2Proof.Machine.execSub c sf rn rd op s
  | .swi c imm => Sys2Proof.Machine.execSwi c imm s
  | .swp c rn rd rm => Sys2Proof.Machine.execSwp c rn rd rm s
  | .swpb c rn rd rm => Sys2Proof.Machine.execSwpb c rn rd rm s
  | .sxtab c rn rd rot rm => Sys2Proof.Machine.execSxtab c rn rd rot rm s
  | .sxtab16 c rn rd rot rm => Sys2Proof.Machine.execSxtab16 c rn rd rot rm s
  | .sxtah c rn rd rot rm => Sys2Proof.Machine.execSxtah c rn rd rot rm s
  | .sxtb c rd rot rm => Sys2Proof.Machine.execSxtb c rd rot rm s
  | .sxtb16 c rd rot rm => Sys2Proof.Machine.execSxtb16 c rd rot rm s
  | .sxth c rd rot rm => Sys2Proof.Machine.execSxth c rd rot rm s
  | .teq c rn op => Sys2Proof.Machine.execTeq c rn op s
  | .tst c rn op => Sys2Proof.Machine.execTst c rn op s
  | .uadd16 c rn rd rm => Sys2Proof.Machine.execUadd16 c rn rd rm s
  | .uadd8 c rn rd rm => Sys2Proof.Machine.execUadd8 c rn rd rm s
  | .uaddsubx c rn rd rm => Sys2Proof.Machine.execUaddsubx c rn rd rm s
  | .uhadd16 c rn rd rm => Sys2Proof.Machine.execUhadd16 c rn rd rm s
  | .uhadd8 c rn rd rm => Sys2Proof.Machine.execUhadd8 c rn rd rm s
  | .uhaddsubx c rn rd rm => Sys2Proof.Machine.execUhaddsubx c rn rd rm s
  | .uhsub16 c rn rd rm => Sys2Proof.Machine.execUhsub16 c rn rd rm s
  | .uhsub8 c rn rd rm => Sys2Proof.Machine.execUhsub8 c rn rd rm s
  | .uhsubaddx c rn rd rm => Sys2Proof.Machine.execUhsubaddx c rn rd rm s
  | .umaal c rdHi rdLo rs rm => Sys2Proof.Machine.execUmaal c rdHi rdLo rs rm s
  | .umlal c sf rdHi rdLo rs rm => Sys2Proof.Machine.execUmlal c sf rdHi rdLo rs rm s
  | .umull c sf rdHi rdLo rs rm => Sys2Proof.Machine.execUmull c sf rdHi rdLo rs rm s
  | .uqadd16 c rn rd rm => Sys2Proof.Machine.execUqadd16 c rn rd rm s
  | .uqadd8 c rn rd rm => Sys2Proof.Machine.execUqadd8 c rn rd rm s
  | .uqaddsubx c rn rd rm => Sys2Proof.Machine.execUqaddsubx c rn rd rm s
  | .uqsub16 c rn rd rm => Sys2Proof.Machine.execUqsub16 c rn rd rm s
  | .uqsub8 c rn rd rm => Sys2Proof.Machine.execUqsub8 c rn rd rm s
  | .uqsubaddx c rn rd rm => Sys2Proof.Machine.execUqsubaddx c rn rd rm s
  | .usad8 c rd rs rm => Sys2Proof.Machine.execUsad8 c rd rs rm s
  | .usada8 c rd rn rs rm => Sys2Proof.Machine.execUsada8 c rd rn rs rm s
  | .usat c sat rd amount asr rm => Sys2Proof.Machine.execUsat c sat rd amount asr rm s
  | .usat16 c sat rd rm => Sys2Proof.Machine.execUsat16 c sat rd rm s
  | .usub16 c rn rd rm => Sys2Proof.Machine.execUsub16 c rn rd rm s
  | .usub8 c rn rd rm => Sys2Proof.Machine.execUsub8 c rn rd rm s
  | .usubaddx c rn rd rm => Sys2Proof.Machine.execUsubaddx c rn rd rm s
  | .uxtab c rn rd rot rm => Sys2Proof.Machine.execUxtab c rn rd rot rm s
  | .uxtab16 c rn rd rot rm => Sys2Proof.Machine.execUxtab16 c rn rd rot rm s
  | .uxtah c rn rd rot rm => Sys2Proof.Machine.execUxtah c rn rd rot rm s
  | .uxtb c rd rot rm => Sys2Proof.Machine.execUxtb c rd rot rm s
  | .uxtb16 c rd rot rm => Sys2Proof.Machine.execUxtb16 c rd rot rm s
  | .uxth c rd rot rm => Sys2Proof.Machine.execUxth c rd rot rm s

end Sys2Proof.Machine
end

