-- ==== Sys2Proof/Machine/Fetch.lean ====
section
/-! DEFINITION. Machine/Fetch.lean: the instruction boundary (60_exceptions R580, R585) and the fetch of an instruction
(20_memory R97, R105, R113, R128). -/

namespace Sys2Proof.Machine

/-- The interrupt taken at an instruction boundary, by the masks of the CPSR and in the order of R585. -/
def pendingInterrupt (s : State) : Option Exception :=
  if s.fiqLine && !s.bitF then some .fiq
  else if s.irqLine && !s.bitI then some .irq
  else if s.isV6 && s.abortLine && !s.bitA then some .impreciseAbort
  else none

/-- Why no instruction can run in a state: a configuration the spec does not support or a reserved one (R96), or a mode
number that is reserved (R58). -/
def stateStop (s : State) : Option Out :=
  if s.alignU && s.params.cp15B then some (.refused .unsupportedByteOrder)
  else if s.isV6 && s.params.cp15B && s.bitE then some (.refused .reservedByteOrder)
  else if (Mode.ofCode (psrMode s.cpsr)).isNone then some (.fault (.unpredictable .reservedMode))
  else none

/-- `n` bytes of an instruction from `a` on: a byte the program has written (R128) or that nothing has written (R91)
stops the fetch. -/
def fetchBytes (s : State) (a : Word) : Nat → Except Fault (List Byte)
  | 0 => .ok []
  | n + 1 =>
    if s.written.contains a.toNat then .error (.fetchWritten a)
    else
      match s.byteAt a with
      | none => .error (.fetchUnwritten a)
      | some b => do
        let bs ← fetchBytes s (a + 1) n
        pure (b :: bs)

/-- What a fetch gives: a decoded word, a Prefetch Abort outside `MEM_MAP` (R566), or a stop. -/
inductive Fetched where
  | decoded (d : Decoded)
  | refused
  | stopped (f : Fault)
  deriving DecidableEq, Repr

/-- Fetches and decodes the word at the pc (R97, R566). -/
def fetch (s : State) : Fetched :=
  if s.mappedBytes s.pc 4 then
    match fetchBytes s s.pc 4 with
    | .ok bs => .decoded (decodeBytes s.arch s.params.cp15B bs)
    | .error f => .stopped f
  else .refused

/-- The outcome of the architecturally Undefined pattern (R192 (a)): the exception when its condition passes. -/
def undefinedOutcome (c : Cond) (s : State) : Out :=
  finish s (conditional c s (.error .undefinedInstruction))

/-- The four bytes of a word in the order of the fetch (R97). -/
def fetchOrder (s : State) (w : Word) : List Byte := wordBytes s.params.cp15B w

/-- Places bytes at consecutive addresses as the launch image does: they count as not written (R128). -/
def State.placeBytes (s : State) (a : Word) : List Byte → State
  | [] => s
  | v :: vs =>
    State.placeBytes
      { s with mem := Memory.write s.mem a.toNat v, written := s.written.filter (fun k => k != a.toNat) } (a + 1) vs

end Sys2Proof.Machine
end

