-- ==== Sys2Proof/Machine/Hazard.lean ====
section
/-! DEFINITION. Machine/Hazard.lean: the registers an instruction reads or writes, for the hazard of R630
(70_reset_and_hazards). -/

namespace Sys2Proof.Machine

/-- The registers of an Addressing Mode 1 operand. -/
def operand2Regs : Operand2 → List Reg
  | .imm _ _ => []
  | .shiftImm _ _ rm => [rm]
  | .shiftReg rs _ rm => [rs, rm]

/-- The general registers an instruction names, reads or writes, by number (R630): its register fields, the registers of
its list, and the implicit link and stack registers. -/
def instrRegs : Instr → List Reg
  | .adc _ _ rn rd op => [rn, rd] ++ operand2Regs op
  | .add _ _ rn rd op => [rn, rd] ++ operand2Regs op
  | .and _ _ rn rd op => [rn, rd] ++ operand2Regs op
  | .b _ _ => []
  | .bic _ _ rn rd op => [rn, rd] ++ operand2Regs op
  | .bkpt _ => []
  | .bl _ _ => [14]
  | .blx1 _ _ => [14]
  | .blx2 _ rm => [rm, 14]
  | .bx _ rm => [rm]
  | .bxj _ rm => [rm]
  | .cdp _ _ _ _ _ _ _ => []
  | .cdp2 _ _ _ _ _ _ => []
  | .clz _ rd rm => [rd, rm]
  | .cmn _ rn op => [rn] ++ operand2Regs op
  | .cmp _ rn op => [rn] ++ operand2Regs op
  | .cps _ _ _ _ _ _ => []
  | .cpy _ rd rm => [rd, rm]
  | .eor _ _ rn rd op => [rn, rd] ++ operand2Regs op
  | .ldc _ _ _ rn _ _ _ => [rn]
  | .ldc2 _ _ rn _ _ _ => [rn]
  | .ldm1 _ _ _ rn list => [rn] ++ listRegs list
  | .ldm2 _ _ rn list => [rn] ++ listRegs (list.setWidth 16)
  | .ldm3 _ _ _ rn list => [rn] ++ listRegs (list.setWidth 16)
  | .ldr _ _ _ rn rd off => [rn, rd] ++ (offset2Reg off).toList
  | .ldrb _ _ _ rn rd off => [rn, rd] ++ (offset2Reg off).toList
  | .ldrbt _ _ rn rd off => [rn, rd] ++ (offset2Reg off).toList
  | .ldrd _ _ _ rn rd off => [rn, rd, rd + 1] ++ (offset3Reg off).toList
  | .ldrex _ rn rd => [rn, rd]
  | .ldrh _ _ _ rn rd off => [rn, rd] ++ (offset3Reg off).toList
  | .ldrsb _ _ _ rn rd off => [rn, rd] ++ (offset3Reg off).toList
  | .ldrsh _ _ _ rn rd off => [rn, rd] ++ (offset3Reg off).toList
  | .ldrt _ _ rn rd off => [rn, rd] ++ (offset2Reg off).toList
  | .mcr _ _ _ rd _ _ _ => [rd]
  | .mcr2 _ _ rd _ _ _ => [rd]
  | .mcrr _ rn rd _ _ _ => [rn, rd]
  | .mcrr2 rn rd _ _ _ => [rn, rd]
  | .mla _ _ rd rn rs rm => [rd, rn, rs, rm]
  | .mov _ _ rd op => [rd] ++ operand2Regs op
  | .mrc _ _ _ rd _ _ _ => [rd]
  | .mrc2 _ _ rd _ _ _ => [rd]
  | .mrrc _ rn rd _ _ _ => [rn, rd]
  | .mrrc2 rn rd _ _ _ => [rn, rd]
  | .mrs _ _ rd => [rd]
  | .msrImm _ _ _ _ _ => []
  | .msrReg _ _ _ rm => [rm]
  | .mul _ _ rd rs rm => [rd, rs, rm]
  | .mvn _ _ rd op => [rd] ++ operand2Regs op
  | .orr _ _ rn rd op => [rn, rd] ++ operand2Regs op
  | .pkhbt _ rn rd _ rm => [rn, rd, rm]
  | .pkhtb _ rn rd _ rm => [rn, rd, rm]
  | .pld _ rn off => [rn] ++ (offset2Reg off).toList
  | .qadd _ rn rd rm => [rn, rd, rm]
  | .qadd16 _ rn rd rm => [rn, rd, rm]
  | .qadd8 _ rn rd rm => [rn, rd, rm]
  | .qaddsubx _ rn rd rm => [rn, rd, rm]
  | .qdadd _ rn rd rm => [rn, rd, rm]
  | .qdsub _ rn rd rm => [rn, rd, rm]
  | .qsub _ rn rd rm => [rn, rd, rm]
  | .qsub16 _ rn rd rm => [rn, rd, rm]
  | .qsub8 _ rn rd rm => [rn, rd, rm]
  | .qsubaddx _ rn rd rm => [rn, rd, rm]
  | .rev _ rd rm => [rd, rm]
  | .rev16 _ rd rm => [rd, rm]
  | .revsh _ rd rm => [rd, rm]
  | .rfe _ _ rn => [rn]
  | .rsb _ _ rn rd op => [rn, rd] ++ operand2Regs op
  | .rsc _ _ rn rd op => [rn, rd] ++ operand2Regs op
  | .sadd16 _ rn rd rm => [rn, rd, rm]
  | .sadd8 _ rn rd rm => [rn, rd, rm]
  | .saddsubx _ rn rd rm => [rn, rd, rm]
  | .sbc _ _ rn rd op => [rn, rd] ++ operand2Regs op
  | .sel _ rn rd rm => [rn, rd, rm]
  | .setend _ => []
  | .shadd16 _ rn rd rm => [rn, rd, rm]
  | .shadd8 _ rn rd rm => [rn, rd, rm]
  | .shaddsubx _ rn rd rm => [rn, rd, rm]
  | .shsub16 _ rn rd rm => [rn, rd, rm]
  | .shsub8 _ rn rd rm => [rn, rd, rm]
  | .shsubaddx _ rn rd rm => [rn, rd, rm]
  | .smlaxy _ rd rn rs _ _ rm => [rd, rn, rs, rm]
  | .smlad _ rd rn rs _ rm => [rd, rn, rs, rm]
  | .smlal _ _ rdHi rdLo rs rm => [rdHi, rdLo, rs, rm]
  | .smlalxy _ rdHi rdLo rs _ _ rm => [rdHi, rdLo, rs, rm]
  | .smlald _ rdHi rdLo rs _ rm => [rdHi, rdLo, rs, rm]
  | .smlawy _ rd rn rs _ rm => [rd, rn, rs, rm]
  | .smlsd _ rd rn rs _ rm => [rd, rn, rs, rm]
  | .smlsld _ rdHi rdLo rs _ rm => [rdHi, rdLo, rs, rm]
  | .smmla _ rd rn rs _ rm => [rd, rn, rs, rm]
  | .smmls _ rd rn rs _ rm => [rd, rn, rs, rm]
  | .smmul _ rd rs _ rm => [rd, rs, rm]
  | .smuad _ rd rs _ rm => [rd, rs, rm]
  | .smulxy _ rd rs _ _ rm => [rd, rs, rm]
  | .smull _ _ rdHi rdLo rs rm => [rdHi, rdLo, rs, rm]
  | .smulwy _ rd rs _ rm => [rd, rs, rm]
  | .smusd _ rd rs _ rm => [rd, rs, rm]
  | .srs _ _ _ => [13, 14]
  | .ssat _ _ rd _ _ rm => [rd, rm]
  | .ssat16 _ _ rd rm => [rd, rm]
  | .ssub16 _ rn rd rm => [rn, rd, rm]
  | .ssub8 _ rn rd rm => [rn, rd, rm]
  | .ssubaddx _ rn rd rm => [rn, rd, rm]
  | .stc _ _ _ rn _ _ _ => [rn]
  | .stc2 _ _ rn _ _ _ => [rn]
  | .stm1 _ _ _ rn list => [rn] ++ listRegs list
  | .stm2 _ _ rn list => [rn] ++ listRegs list
  | .str _ _ _ rn rd off => [rn, rd] ++ (offset2Reg off).toList
  | .strb _ _ _ rn rd off => [rn, rd] ++ (offset2Reg off).toList
  | .strbt _ _ rn rd off => [rn, rd] ++ (offset2Reg off).toList
  | .strd _ _ _ rn rd off => [rn, rd, rd + 1] ++ (offset3Reg off).toList
  | .strex _ rn rd rm => [rn, rd, rm]
  | .strh _ _ _ rn rd off => [rn, rd] ++ (offset3Reg off).toList
  | .strt _ _ rn rd off => [rn, rd] ++ (offset2Reg off).toList
  | .sub _ _ rn rd op => [rn, rd] ++ operand2Regs op
  | .swi _ _ => []
  | .swp _ rn rd rm => [rn, rd, rm]
  | .swpb _ rn rd rm => [rn, rd, rm]
  | .sxtab _ rn rd _ rm => [rn, rd, rm]
  | .sxtab16 _ rn rd _ rm => [rn, rd, rm]
  | .sxtah _ rn rd _ rm => [rn, rd, rm]
  | .sxtb _ rd _ rm => [rd, rm]
  | .sxtb16 _ rd _ rm => [rd, rm]
  | .sxth _ rd _ rm => [rd, rm]
  | .teq _ rn op => [rn] ++ operand2Regs op
  | .tst _ rn op => [rn] ++ operand2Regs op
  | .uadd16 _ rn rd rm => [rn, rd, rm]
  | .uadd8 _ rn rd rm => [rn, rd, rm]
  | .uaddsubx _ rn rd rm => [rn, rd, rm]
  | .uhadd16 _ rn rd rm => [rn, rd, rm]
  | .uhadd8 _ rn rd rm => [rn, rd, rm]
  | .uhaddsubx _ rn rd rm => [rn, rd, rm]
  | .uhsub16 _ rn rd rm => [rn, rd, rm]
  | .uhsub8 _ rn rd rm => [rn, rd, rm]
  | .uhsubaddx _ rn rd rm => [rn, rd, rm]
  | .umaal _ rdHi rdLo rs rm => [rdHi, rdLo, rs, rm]
  | .umlal _ _ rdHi rdLo rs rm => [rdHi, rdLo, rs, rm]
  | .umull _ _ rdHi rdLo rs rm => [rdHi, rdLo, rs, rm]
  | .uqadd16 _ rn rd rm => [rn, rd, rm]
  | .uqadd8 _ rn rd rm => [rn, rd, rm]
  | .uqaddsubx _ rn rd rm => [rn, rd, rm]
  | .uqsub16 _ rn rd rm => [rn, rd, rm]
  | .uqsub8 _ rn rd rm => [rn, rd, rm]
  | .uqsubaddx _ rn rd rm => [rn, rd, rm]
  | .usad8 _ rd rs rm => [rd, rs, rm]
  | .usada8 _ rd rn rs rm => [rd, rn, rs, rm]
  | .usat _ _ rd _ _ rm => [rd, rm]
  | .usat16 _ _ rd rm => [rd, rm]
  | .usub16 _ rn rd rm => [rn, rd, rm]
  | .usub8 _ rn rd rm => [rn, rd, rm]
  | .usubaddx _ rn rd rm => [rn, rd, rm]
  | .uxtab _ rn rd _ rm => [rn, rd, rm]
  | .uxtab16 _ rn rd _ rm => [rn, rd, rm]
  | .uxtah _ rn rd _ rm => [rn, rd, rm]
  | .uxtb _ rd _ rm => [rd, rm]
  | .uxtb16 _ rd _ rm => [rd, rm]
  | .uxth _ rd _ rm => [rd, rm]

/-- The condition of an instruction; an unconditional one is always executed (R144). -/
def instrCond : Instr → Cond
  | .adc c _ _ _ _ => c
  | .add c _ _ _ _ => c
  | .and c _ _ _ _ => c
  | .b c _ => c
  | .bic c _ _ _ _ => c
  | .bkpt _ => .al
  | .bl c _ => c
  | .blx1 _ _ => .al
  | .blx2 c _ => c
  | .bx c _ => c
  | .bxj c _ => c
  | .cdp c _ _ _ _ _ _ => c
  | .cdp2 _ _ _ _ _ _ => .al
  | .clz c _ _ => c
  | .cmn c _ _ => c
  | .cmp c _ _ => c
  | .cps _ _ _ _ _ _ => .al
  | .cpy c _ _ => c
  | .eor c _ _ _ _ => c
  | .ldc c _ _ _ _ _ _ => c
  | .ldc2 _ _ _ _ _ _ => .al
  | .ldm1 c _ _ _ _ => c
  | .ldm2 c _ _ _ => c
  | .ldm3 c _ _ _ _ => c
  | .ldr c _ _ _ _ _ => c
  | .ldrb c _ _ _ _ _ => c
  | .ldrbt c _ _ _ _ => c
  | .ldrd c _ _ _ _ _ => c
  | .ldrex c _ _ => c
  | .ldrh c _ _ _ _ _ => c
  | .ldrsb c _ _ _ _ _ => c
  | .ldrsh c _ _ _ _ _ => c
  | .ldrt c _ _ _ _ => c
  | .mcr c _ _ _ _ _ _ => c
  | .mcr2 _ _ _ _ _ _ => .al
  | .mcrr c _ _ _ _ _ => c
  | .mcrr2 _ _ _ _ _ => .al
  | .mla c _ _ _ _ _ => c
  | .mov c _ _ _ => c
  | .mrc c _ _ _ _ _ _ => c
  | .mrc2 _ _ _ _ _ _ => .al
  | .mrrc c _ _ _ _ _ => c
  | .mrrc2 _ _ _ _ _ => .al
  | .mrs c _ _ => c
  | .msrImm c _ _ _ _ => c
  | .msrReg c _ _ _ => c
  | .mul c _ _ _ _ => c
  | .mvn c _ _ _ => c
  | .orr c _ _ _ _ => c
  | .pkhbt c _ _ _ _ => c
  | .pkhtb c _ _ _ _ => c
  | .pld _ _ _ => .al
  | .qadd c _ _ _ => c
  | .qadd16 c _ _ _ => c
  | .qadd8 c _ _ _ => c
  | .qaddsubx c _ _ _ => c
  | .qdadd c _ _ _ => c
  | .qdsub c _ _ _ => c
  | .qsub c _ _ _ => c
  | .qsub16 c _ _ _ => c
  | .qsub8 c _ _ _ => c
  | .qsubaddx c _ _ _ => c
  | .rev c _ _ => c
  | .rev16 c _ _ => c
  | .revsh c _ _ => c
  | .rfe _ _ _ => .al
  | .rsb c _ _ _ _ => c
  | .rsc c _ _ _ _ => c
  | .sadd16 c _ _ _ => c
  | .sadd8 c _ _ _ => c
  | .saddsubx c _ _ _ => c
  | .sbc c _ _ _ _ => c
  | .sel c _ _ _ => c
  | .setend _ => .al
  | .shadd16 c _ _ _ => c
  | .shadd8 c _ _ _ => c
  | .shaddsubx c _ _ _ => c
  | .shsub16 c _ _ _ => c
  | .shsub8 c _ _ _ => c
  | .shsubaddx c _ _ _ => c
  | .smlaxy c _ _ _ _ _ _ => c
  | .smlad c _ _ _ _ _ => c
  | .smlal c _ _ _ _ _ => c
  | .smlalxy c _ _ _ _ _ _ => c
  | .smlald c _ _ _ _ _ => c
  | .smlawy c _ _ _ _ _ => c
  | .smlsd c _ _ _ _ _ => c
  | .smlsld c _ _ _ _ _ => c
  | .smmla c _ _ _ _ _ => c
  | .smmls c _ _ _ _ _ => c
  | .smmul c _ _ _ _ => c
  | .smuad c _ _ _ _ => c
  | .smulxy c _ _ _ _ _ => c
  | .smull c _ _ _ _ _ => c
  | .smulwy c _ _ _ _ => c
  | .smusd c _ _ _ _ => c
  | .srs _ _ _ => .al
  | .ssat c _ _ _ _ _ => c
  | .ssat16 c _ _ _ => c
  | .ssub16 c _ _ _ => c
  | .ssub8 c _ _ _ => c
  | .ssubaddx c _ _ _ => c
  | .stc c _ _ _ _ _ _ => c
  | .stc2 _ _ _ _ _ _ => .al
  | .stm1 c _ _ _ _ => c
  | .stm2 c _ _ _ => c
  | .str c _ _ _ _ _ => c
  | .strb c _ _ _ _ _ => c
  | .strbt c _ _ _ _ => c
  | .strd c _ _ _ _ _ => c
  | .strex c _ _ _ => c
  | .strh c _ _ _ _ _ => c
  | .strt c _ _ _ _ => c
  | .sub c _ _ _ _ => c
  | .swi c _ => c
  | .swp c _ _ _ => c
  | .swpb c _ _ _ => c
  | .sxtab c _ _ _ _ => c
  | .sxtab16 c _ _ _ _ => c
  | .sxtah c _ _ _ _ => c
  | .sxtb c _ _ _ => c
  | .sxtb16 c _ _ _ => c
  | .sxth c _ _ _ => c
  | .teq c _ _ => c
  | .tst c _ _ => c
  | .uadd16 c _ _ _ => c
  | .uadd8 c _ _ _ => c
  | .uaddsubx c _ _ _ => c
  | .uhadd16 c _ _ _ => c
  | .uhadd8 c _ _ _ => c
  | .uhaddsubx c _ _ _ => c
  | .uhsub16 c _ _ _ => c
  | .uhsub8 c _ _ _ => c
  | .uhsubaddx c _ _ _ => c
  | .umaal c _ _ _ _ => c
  | .umlal c _ _ _ _ _ => c
  | .umull c _ _ _ _ _ => c
  | .uqadd16 c _ _ _ => c
  | .uqadd8 c _ _ _ => c
  | .uqaddsubx c _ _ _ => c
  | .uqsub16 c _ _ _ => c
  | .uqsub8 c _ _ _ => c
  | .uqsubaddx c _ _ _ => c
  | .usad8 c _ _ _ => c
  | .usada8 c _ _ _ _ => c
  | .usat c _ _ _ _ _ => c
  | .usat16 c _ _ _ => c
  | .usub16 c _ _ _ => c
  | .usub8 c _ _ _ => c
  | .usubaddx c _ _ _ => c
  | .uxtab c _ _ _ _ => c
  | .uxtab16 c _ _ _ _ => c
  | .uxtah c _ _ _ _ => c
  | .uxtb c _ _ _ => c
  | .uxtb16 c _ _ _ => c
  | .uxth c _ _ _ => c

/-- Whether a register number is banked for R630: R13 and R14, and R8 to R12 in FIQ mode. -/
def hazardReg (m : Mode) (r : Reg) : Bool := r == 13 || r == 14 || (m == .fiq && 8 ≤ r.toNat && r.toNat ≤ 12)

/-- Whether `i` meets the hazard of R630: it is the instruction right after an LDM (2) or STM (2), before ARMv6, its
condition passes, and it uses a banked register. -/
def meetsHazard (i : Instr) (s : State) : Bool :=
  s.bankHazard == .live && conditionPassed (instrCond i) s && (instrRegs i).any (hazardReg s.mode)

/-- The hazard at the start of a step: armed by the step before, it is live in this one (R630). -/
def State.wake (s : State) : State := if s.bankHazard = .armed then { s with bankHazard := .live } else s

/-- The hazard at the end of a step: it lasts for one instruction (R630). -/
def State.settle (s : State) : State := if s.bankHazard = .live then { s with bankHazard := .none } else s

end Sys2Proof.Machine
end

