-- ==== Sys2Proof/Machine/Step.lean ====
section
/-! DEFINITION. Machine/Step.lean: one step of the machine (60_exceptions R580, R585, R586). -/

namespace Sys2Proof.Machine

/-- Runs what a word decodes to: an instruction, unless it meets the hazard of R630; the Undefined pattern; or a word
that is no instruction (R192). -/
def runDecoded (d : Decoded) (s : State) : Out :=
  match d with
  | .instr i => if meetsHazard i s then .fault (.unpredictable .bankedAfterUserTransfer) else exec i s
  | .undefinedPattern c => undefinedOutcome c s
  | .reject r => .fault (.undefinedWord r)

/-- Fetches at the pc and runs what is there; a refused fetch is a Prefetch Abort (R566). -/
def runFetched (s : State) : Out :=
  match fetch s with
  | .refused => takeException .prefetchAbort s
  | .stopped f => .fault f
  | .decoded d => runDecoded d s

/-- One instruction at a boundary with no interrupt: Thumb and Java states are refused (R386), and the pc is word-aligned
in ARM state (R105). -/
def stepInstr (s : State) : Out :=
  if s.bitT || s.bitJ then .refused .leftArmState
  else if s.pc.extractLsb' 0 2 = 0 then runFetched s
  else .fault (.unpredictable .misalignedPc)

/-- A step before the hazard of R630 is settled: a pending interrupt is taken before the fetch (R580).
That it is taken also where T or J is 1, and only the fetch there is refused, is a choice (DESIGN CHOICE, log entry 36):
R386 refuses at the next fetch, D15 as soon as an instruction leaves T or J 1. -/
def stepAwake (s : State) : Out :=
  match stateStop s with
  | some o => o
  | none =>
    match pendingInterrupt s with
    | some e => takeException e s
    | none => stepInstr s

/-- One step of the machine. -/
def step (s : State) : Host.Outcome State Fault Refusal :=
  match stepAwake s.wake with
  | .next t => .next t.settle
  | .fault f => .fault f
  | .refused r => .refused r

/-- The state with the instruction of the bits `w` of a table row standing where the next step fetches: its bytes are
placed at the pc as a launch image would place them (R97, R128). -/
def State.withFetchWord (s : State) (nbits w : Nat) : State :=
  s.placeBytes s.pc (fetchOrder s (BitVec.ofNat 32 (w % 2 ^ nbits)))

end Sys2Proof.Machine
end

