-- ==== Sys2Proof/Safety.lean ====
section
/-! DEFINITION. Safety.lean: what counts as a legal state and a safe run, and the words the statements use: when an
instruction runs, what its result leaves, and the tables of what each instruction may change. -/

namespace Sys2Proof.Machine

/-! ### Legal states and runs -/

/-- The mode field of the CPSR names one of the seven modes (R58). -/
def State.legalMode (s : State) : Prop := (Mode.ofCode (psrMode s.cpsr)).isSome = true

/-- No unallocated bit of the CPSR or of an SPSR is 1 (R56), and every SPSR names a mode (R58). -/
def State.legalPsrs (s : State) : Prop :=
  s.cpsr &&& (psrMasks s.arch).unalloc = 0 ∧
  ∀ m x, s.spsr.get m = some x → x &&& (psrMasks s.arch).unalloc = 0 ∧ (Mode.ofCode (psrMode x)).isSome = true

/-- The memory and the set of written addresses are in canonical form. -/
def State.canonical (s : State) : Prop := Memory.wf s.mem = true ∧ AddrSet.wf s.written = true

/-- Every written address holds a value (R93: a store gives the bytes it marks a value). -/
def State.writtenHeld (s : State) : Prop := ∀ a ∈ s.written, (Memory.read s.mem a).isSome = true

/-- At most one mark of the global monitor is this processor's (R120). -/
def State.ownMarkUnique (s : State) : Prop := (s.globalMonitor.filter (fun g => g.pid == 0)).length ≤ 1

/-- In ARM state the pc is word-aligned (R48, R105). -/
def State.pcAligned (s : State) : Prop := s.bitT = false → s.bitJ = false → s.pc.extractLsb' 0 2 = 0

/-- Between steps the hazard of R630 is armed or absent, and absent at ARMv6. -/
def State.hazardSettled (s : State) : Prop := s.bankHazard ≠ .live ∧ (s.isV6 = true → s.bankHazard = .none)

/-- The invariant of the machine: what every step keeps. -/
structure State.WellFormed (s : State) : Prop where
  mode : s.legalMode
  psrs : s.legalPsrs
  memory : s.canonical
  written : s.writtenHeld
  ownMark : s.ownMarkUnique
  pc : s.pcAligned
  hazard : s.hazardSettled

/-- A step of `s` goes on: no fault and no refusal. -/
def State.goesOn (s : State) : Prop := ∃ t, step s = .next t

/-- `t` is reached from `s` by steps that all go on. -/
inductive Reaches : State → State → Prop where
  | here (s : State) : Reaches s s
  | step {s t u : State} (first : step s = .next t) (rest : Reaches t u) : Reaches s u

/-! ### When an instruction runs and what it leaves -/

/-- An instruction of condition `c` runs in `s`: its condition passes and the address after it exists (R45, R46). -/
abbrev State.runs (s : State) (c : Cond) : Prop := conditionPassed c s = true ∧ s.pc.toNat + 4 < 2 ^ 32

/-- `s` with the pc past the instruction (R45). -/
def State.past (s : State) : State := { s with pc := s.pc + 4 }

/-- `s` past an instruction that leaves `v` in register `rd` (not R15) of the current mode and `x` in the CPSR. -/
def State.result (s : State) (rd : Reg) (v x : Word) : State := ({ s.writeReg rd v with cpsr := x }).past

/-- `s` past an instruction that leaves a 64-bit value in `RdHi` and `RdLo` of the current mode. -/
def State.resultPair (s : State) (hi lo : Reg) (v : BitVec 64) : State :=
  ((s.writeReg lo (v.extractLsb' 0 32)).writeReg hi (v.extractLsb' 32 32)).past

/-- The instruction stops because its behaviour is UNPREDICTABLE (R20). -/
abbrev stopsAs (o : Out) (why : Unpredictable) : Prop := o = .fault (.unpredictable why)

/-- A PSR value with other condition flags. -/
def psrFlags (x : Word) (n z c v : Bool) : Word :=
  BitVec.ofBool n ++ (BitVec.ofBool z ++ (BitVec.ofBool c ++ (BitVec.ofBool v ++ x.extractLsb' 0 28)))

/-- A PSR value with bit 27, Q, set when `b` (R53). -/
def psrSticky (x : Word) (b : Bool) : Word := if b then x ||| 0x08000000 else x

/-- A PSR value with other GE flags (R54). -/
def psrGe (x : Word) (ge : BitVec 4) : Word := x.extractLsb' 20 12 ++ (ge ++ x.extractLsb' 0 16)

/-- A PSR value with another T bit. -/
def psrThumb (x : Word) (t : Bool) : Word := x.extractLsb' 6 26 ++ (BitVec.ofBool t ++ x.extractLsb' 0 5)

/-- Whether an integer is no signed 32-bit value. -/
def outside32 (x : Int) : Bool := decide (x < -2147483648) || decide (2147483647 < x)

/-- The nearest integer between two bounds. -/
def clamp (lo hi x : Int) : Int := max lo (min hi x)

/-- The byte a data access finds at an address: mapped (R113) and holding a value (R91). -/
def State.dataByte (s : State) (a : Word) : Option Byte := if s.mapped a then s.byteAt a else none

/-- `MemRead(a, 2)` of R92 as a value, where it has one. -/
def State.halfAt (s : State) (a : Word) : Option Half :=
  match s.dataByte a, s.dataByte (a + 1) with
  | some b0, some b1 => some (if s.bigEndianData then b0 ++ b1 else b1 ++ b0)
  | _, _ => none

/-- `MemRead(a, 4)` of R92 as a value, where it has one. -/
def State.wordAt (s : State) (a : Word) : Option Word :=
  match s.dataByte a, s.dataByte (a + 1), s.dataByte (a + 2), s.dataByte (a + 3) with
  | some b0, some b1, some b2, some b3 =>
    some (if s.bigEndianData then b0 ++ (b1 ++ (b2 ++ b3)) else b3 ++ (b2 ++ (b1 ++ b0)))
  | _, _, _, _ => none

/-- The word of the instruction at the pc: four mapped bytes that hold values, in the order of the fetch (R97). -/
def State.fetchedWord (s : State) : Option Word :=
  match s.dataByte s.pc, s.dataByte (s.pc + 1), s.dataByte (s.pc + 2), s.dataByte (s.pc + 3) with
  | some b0, some b1, some b2, some b3 =>
    some (if s.params.cp15B then b0 ++ (b1 ++ (b2 ++ b3)) else b3 ++ (b2 ++ (b1 ++ b0)))
  | _, _, _, _ => none

/-- Every one of `n` words from `a` on has a value. -/
def State.wordsAt (s : State) (a : Word) (n : Nat) : Bool :=
  (List.range n).all (fun k => (s.wordAt (a + BitVec.ofNat 32 (4 * k))).isSome)

/-- The CPSR that exception entry leaves (R570) from the CPSR `x`: bit 24, J, and bit 5, T, are 0 and bit 7, I, is 1; E, A
and F are given, and the mode. -/
def psrEntry (x : Word) (e a f : Bool) (mode : BitVec 5) : Word :=
  x.extractLsb' 25 7 ++ (0#1 ++ (x.extractLsb' 10 14 ++ (BitVec.ofBool e ++ (BitVec.ofBool a ++ (1#1 ++ (BitVec.ofBool f ++
    (0#1 ++ mode)))))))

/-- A read of `n` bytes from `a` on meets an address that holds no memory, every byte before it holding a value (R92). -/
abbrev State.readAborts (s : State) (a : Word) (n : Nat) : Prop :=
  ∃ k < n, s.mapped (a + BitVec.ofNat 32 k) = false ∧ ∀ j < k, (s.dataByte (a + BitVec.ofNat 32 j)).isSome = true

/-- A multiple transfer of `n` words from `start` on takes the Data Abort: a misaligned start where A or U is 1 (R100), or
a byte of the transfer that holds no memory (R118 (b)). -/
abbrev State.blockAborts (s : State) (start : Word) (n : Nat) : Prop :=
  (start.extractLsb' 0 2 ≠ 0 ∧ (s.alignA = true ∨ s.alignU = true)) ∨
  ((start &&& 0xFFFFFFFC).toNat + 4 * n ≤ 2 ^ 32 ∧ s.mappedBytes (start &&& 0xFFFFFFFC) (4 * n) = false)

/-- The instruction `i`, which names coprocessor `cp`, is turned away (R532): the coprocessor is absent, and not one of
the two that are mandatory at ARMv6, or it is present and does not accept the word in the current mode. -/
def State.coprocRejects (s : State) (cp : BitVec 4) (i : Instr) : Prop :=
  match s.coproc[cp.toFin] with
  | .absent => s.isV6 = false ∨ cp.toNat < 14
  | .present u => u.words (psrMode s.cpsr) (encode i) = none

/-- Exception entry goes through: no hazard of R630, and it does not lead to the reserved byte order of R96. -/
abbrev State.entryOpen (s : State) : Prop :=
  s.bankHazard ≠ .live ∧ (s.isV6 && s.params.cp15B && s.params.cp15EE) = false

/-- An exception return to the pc `v` with the CPSR `psr` goes through: no unallocated bit, a legal mode (R590), and in
ARM state a word-aligned pc (R455, R458). -/
abbrev State.returnsTo (s : State) (psr v : Word) : Prop :=
  psr &&& (psrMasks s.arch).unalloc = 0 ∧ (Mode.ofCode (psrMode psr)).isSome = true ∧
  (psr.getLsbD 5 = false → v.extractLsb' 0 2 = 0)

/-- No interrupt is pending that its mask lets through (R580). -/
abbrev State.noInterrupt (s : State) : Prop :=
  (s.fiqLine && !s.bitF) = false ∧ (s.irqLine && !s.bitI) = false ∧ (s.isV6 && s.abortLine && !s.bitA) = false

/-- The configuration is one of R96 that the spec supports, and the mode is legal. -/
abbrev State.supported (s : State) : Prop :=
  (s.alignU && s.params.cp15B) = false ∧ (s.isV6 && s.params.cp15B && s.bitE) = false ∧ s.legalMode

/-- ARM state, with the pc word-aligned (R59, R105). -/
abbrev State.inArm (s : State) : Prop := s.bitT = false ∧ s.bitJ = false ∧ s.pc.extractLsb' 0 2 = 0

/-! ### Data processing -/

/-- The twelve data-processing instructions that write `Rd`, in the order of their opcodes (R200). -/
inductive DpOp where
  | and | eor | sub | rsb | add | adc | sbc | rsc | orr | mov | bic | mvn
  deriving DecidableEq, Repr

/-- The instruction of an opcode; MOV and MVN have no `Rn`. -/
def DpOp.instr (k : DpOp) (c : Cond) (sf : Bool) (rn rd : Reg) (op : Operand2) : Instr :=
  match k with
  | .and => .and c sf rn rd op
  | .eor => .eor c sf rn rd op
  | .sub => .sub c sf rn rd op
  | .rsb => .rsb c sf rn rd op
  | .add => .add c sf rn rd op
  | .adc => .adc c sf rn rd op
  | .sbc => .sbc c sf rn rd op
  | .rsc => .rsc c sf rn rd op
  | .orr => .orr c sf rn rd op
  | .mov => .mov c sf rd op
  | .bic => .bic c sf rn rd op
  | .mvn => .mvn c sf rd op

/-- The register fields besides the operand's. -/
def DpOp.regs (k : DpOp) (rn rd : Reg) : List Reg :=
  match k with
  | .mov => [rd]
  | .mvn => [rd]
  | .and | .eor | .sub | .rsb | .add | .adc | .sbc | .rsc | .orr | .bic => [rd, rn]

/-- The result of R200 on `x` from `Rn`, the shifter operand `y` and the C flag. -/
def DpOp.value (k : DpOp) (x y : Word) (cin : Bool) : Word :=
  match k with
  | .and => x &&& y
  | .eor => x ^^^ y
  | .sub => x - y
  | .rsb => y - x
  | .add => x + y
  | .adc => x + y + (if cin then 1 else 0)
  | .sbc => x - y - (if cin then 0 else 1)
  | .rsc => y - x - (if cin then 0 else 1)
  | .orr => x ||| y
  | .mov => y
  | .bic => x &&& ~~~ y
  | .mvn => ~~~ y

/-- The C flag (R201, R202): a carry out of a sum, no borrow of a difference, the shifter's carry of the logical class. -/
def DpOp.carry (k : DpOp) (x y : Word) (cin shifter : Bool) : Bool :=
  match k with
  | .add => decide (2 ^ 32 ≤ x.toNat + y.toNat)
  | .adc => decide (2 ^ 32 ≤ x.toNat + y.toNat + cin.toNat)
  | .sub => decide (y.toNat ≤ x.toNat)
  | .rsb => decide (x.toNat ≤ y.toNat)
  | .sbc => decide (y.toNat + (!cin).toNat ≤ x.toNat)
  | .rsc => decide (x.toNat + (!cin).toNat ≤ y.toNat)
  | .and | .eor | .orr | .mov | .bic | .mvn => shifter

/-- The V flag by the signs (R24): a sum of one sign has the other; a difference of two signs has not the first's. -/
def DpOp.overflow (k : DpOp) (x y r : Word) (old : Bool) : Bool :=
  match k with
  | .add | .adc => x.msb == y.msb && r.msb != x.msb
  | .sub | .sbc => x.msb != y.msb && r.msb != x.msb
  | .rsb | .rsc => y.msb != x.msb && r.msb != y.msb
  | .and | .eor | .orr | .mov | .bic | .mvn => old

/-! ### Multiply -/

/-- `s` after the flags of a multiply with S (R243): N and Z as given; from ARMv5 on C and V are unchanged, before it C,
and V of the long forms, are free values (log entry 5). -/
def State.mulFlagged (s : State) (sf long n z : Bool) : State :=
  if !sf then s
  else if s.arch.atLeastV5 then { s with cpsr := psrFlags s.cpsr n z s.flagC s.flagV }
  else
    { s with
      cpsr := psrFlags s.cpsr n z (s.free.getLsbD 0) (if long then s.free.getLsbD 1 else s.flagV)
      freeCount := s.freeCount + 1 }

/-- The half of a register that a halfword multiply takes (R241). -/
def State.half (s : State) (r : Reg) (top : Bool) : Half :=
  if top then (s.readReg r).extractLsb' 16 16 else (s.readReg r).extractLsb' 0 16

/-! ### Parallel addition and subtraction -/

/-- The six operations of R280. -/
inductive LaneOp where
  | add16 | addSubX | subAddX | sub16 | add8 | sub8
  deriving DecidableEq, Repr

/-- The thirty-six instructions of R280. -/
def parallelInstr (k : LaneKind) (o : LaneOp) (c : Cond) (rn rd rm : Reg) : Instr :=
  match k, o with
  | .s, .add16 => .sadd16 c rn rd rm
  | .s, .addSubX => .saddsubx c rn rd rm
  | .s, .subAddX => .ssubaddx c rn rd rm
  | .s, .sub16 => .ssub16 c rn rd rm
  | .s, .add8 => .sadd8 c rn rd rm
  | .s, .sub8 => .ssub8 c rn rd rm
  | .q, .add16 => .qadd16 c rn rd rm
  | .q, .addSubX => .qaddsubx c rn rd rm
  | .q, .subAddX => .qsubaddx c rn rd rm
  | .q, .sub16 => .qsub16 c rn rd rm
  | .q, .add8 => .qadd8 c rn rd rm
  | .q, .sub8 => .qsub8 c rn rd rm
  | .sh, .add16 => .shadd16 c rn rd rm
  | .sh, .addSubX => .shaddsubx c rn rd rm
  | .sh, .subAddX => .shsubaddx c rn rd rm
  | .sh, .sub16 => .shsub16 c rn rd rm
  | .sh, .add8 => .shadd8 c rn rd rm
  | .sh, .sub8 => .shsub8 c rn rd rm
  | .u, .add16 => .uadd16 c rn rd rm
  | .u, .addSubX => .uaddsubx c rn rd rm
  | .u, .subAddX => .usubaddx c rn rd rm
  | .u, .sub16 => .usub16 c rn rd rm
  | .u, .add8 => .uadd8 c rn rd rm
  | .u, .sub8 => .usub8 c rn rd rm
  | .uq, .add16 => .uqadd16 c rn rd rm
  | .uq, .addSubX => .uqaddsubx c rn rd rm
  | .uq, .subAddX => .uqsubaddx c rn rd rm
  | .uq, .sub16 => .uqsub16 c rn rd rm
  | .uq, .add8 => .uqadd8 c rn rd rm
  | .uq, .sub8 => .uqsub8 c rn rd rm
  | .uh, .add16 => .uhadd16 c rn rd rm
  | .uh, .addSubX => .uhaddsubx c rn rd rm
  | .uh, .subAddX => .uhsubaddx c rn rd rm
  | .uh, .sub16 => .uhsub16 c rn rd rm
  | .uh, .add8 => .uhadd8 c rn rd rm
  | .uh, .sub8 => .uhsub8 c rn rd rm

/-- The result field of a lane (R281, R284): the halving kinds keep bits w:1 of the exact result. -/
def laneField (k : LaneKind) (minus : Bool) (x y : BitVec w) : BitVec w :=
  match k with
  | .s | .u => if minus then x - y else x + y
  | .q => BitVec.ofInt w (clamp (-(2 ^ (w - 1))) (2 ^ (w - 1) - 1) (if minus then x.toInt - y.toInt else x.toInt + y.toInt))
  | .uq => BitVec.ofInt w (clamp 0 (2 ^ w - 1) (if minus then (x.toNat : Int) - y.toNat else x.toNat + y.toNat))
  | .sh =>
    (if minus then x.signExtend (w + 1) - y.signExtend (w + 1)
     else x.signExtend (w + 1) + y.signExtend (w + 1)).extractLsb' 1 w
  | .uh =>
    (if minus then x.setWidth (w + 1) - y.setWidth (w + 1) else x.setWidth (w + 1) + y.setWidth (w + 1)).extractLsb' 1 w

/-- The GE bit of a lane of the S kind (R282) and of the U kind (R283). -/
def laneFlag (k : LaneKind) (minus : Bool) (x y : BitVec w) : Bool :=
  match k, minus with
  | .s, true => decide (y.toInt ≤ x.toInt)
  | .s, false => decide (0 ≤ x.toInt + y.toInt)
  | _, true => decide (y.toNat ≤ x.toNat)
  | _, false => decide (2 ^ w ≤ x.toNat + y.toNat)

/-- The second operand's half a 16-bit lane works on, and whether it subtracts (R280). -/
def LaneOp.halfOperand (o : LaneOp) (y : Word) (top : Bool) : Half × Bool :=
  match o, top with
  | .add16, true => (y.extractLsb' 16 16, false)
  | .add16, false => (y.extractLsb' 0 16, false)
  | .sub16, true => (y.extractLsb' 16 16, true)
  | .sub16, false => (y.extractLsb' 0 16, true)
  | .addSubX, true => (y.extractLsb' 0 16, false)
  | .addSubX, false => (y.extractLsb' 16 16, true)
  | .subAddX, true => (y.extractLsb' 0 16, true)
  | .subAddX, false => (y.extractLsb' 16 16, false)
  | .add8, _ => (0, false)
  | .sub8, _ => (0, true)

/-- The result of a parallel instruction and its GE bits, field by field as R280 lists them. -/
def parallelResult (k : LaneKind) (o : LaneOp) (x y : Word) : Word × BitVec 4 :=
  match o with
  | .add8 | .sub8 =>
    let minus := o == .sub8
    let field (i : Nat) : Byte := laneField k minus (x.extractLsb' (8 * i) 8) (y.extractLsb' (8 * i) 8)
    let flag (i : Nat) : BitVec 1 := BitVec.ofBool (laneFlag k minus (x.extractLsb' (8 * i) 8) (y.extractLsb' (8 * i) 8))
    (field 3 ++ (field 2 ++ (field 1 ++ field 0)), flag 3 ++ (flag 2 ++ (flag 1 ++ flag 0)))
  | .add16 | .addSubX | .subAddX | .sub16 =>
    let hi := o.halfOperand y true
    let lo := o.halfOperand y false
    let flagHi : BitVec 1 := BitVec.ofBool (laneFlag k hi.2 (x.extractLsb' 16 16) hi.1)
    let flagLo : BitVec 1 := BitVec.ofBool (laneFlag k lo.2 (x.extractLsb' 0 16) lo.1)
    (laneField k hi.2 (x.extractLsb' 16 16) hi.1 ++ laneField k lo.2 (x.extractLsb' 0 16) lo.1,
     flagHi ++ (flagHi ++ (flagLo ++ flagLo)))

/-! ### Multiple transfers -/

/-- How many registers of a list have a lower number: the place of a register's word in the transfer (R451). -/
def listRank (list : BitVec 16) (r : Reg) : Nat := ((List.range r.toNat).filter (fun i => list.getLsbD i)).length

/-- The address of a register's word in a transfer whose words begin at `a` (R451). -/
def slotOf (a : Word) (list : BitVec 16) (r : Reg) : Word := a + BitVec.ofNat 32 (4 * listRank list r)

/-! ### What an instruction may change -/

/-- The registers of the current mode an instruction may write. -/
def destRegs : Instr → List Reg
  | .adc _ _ _ rd _ => [rd]
  | .add _ _ _ rd _ => [rd]
  | .and _ _ _ rd _ => [rd]
  | .b _ _ => []
  | .bic _ _ _ rd _ => [rd]
  | .bkpt _ => []
  | .bl _ _ => [14]
  | .blx1 _ _ => [14]
  | .blx2 _ _ => [14]
  | .bx _ _ => []
  | .bxj _ _ => []
  | .cdp _ _ _ _ _ _ _ => []
  | .cdp2 _ _ _ _ _ _ => []
  | .clz _ rd _ => [rd]
  | .cmn _ _ _ => []
  | .cmp _ _ _ => []
  | .cps _ _ _ _ _ _ => []
  | .cpy _ rd _ => [rd]
  | .eor _ _ _ rd _ => [rd]
  | .ldc _ am _ rn _ _ _ => if am.w then [rn] else []
  | .ldc2 am _ rn _ _ _ => if am.w then [rn] else []
  | .ldm1 _ _ wb rn list => if wb then rn :: listRegs list else listRegs list
  | .ldm2 _ _ _ _ => []
  | .ldm3 _ _ wb rn list => if wb then rn :: listRegs (list.setWidth 16) else listRegs (list.setWidth 16)
  | .ldr _ ix _ rn rd _ => if Index2.writes ix then [rd, rn] else [rd]
  | .ldrb _ ix _ rn rd _ => if Index2.writes ix then [rd, rn] else [rd]
  | .ldrbt _ _ rn rd _ => [rd, rn]
  | .ldrd _ ix _ rn rd _ => if Index3.writes ix then [rd, rd + 1, rn] else [rd, rd + 1]
  | .ldrex _ _ rd => [rd]
  | .ldrh _ ix _ rn rd _ => if Index3.writes ix then [rd, rn] else [rd]
  | .ldrsb _ ix _ rn rd _ => if Index3.writes ix then [rd, rn] else [rd]
  | .ldrsh _ ix _ rn rd _ => if Index3.writes ix then [rd, rn] else [rd]
  | .ldrt _ _ rn rd _ => [rd, rn]
  | .mcr _ _ _ _ _ _ _ => []
  | .mcr2 _ _ _ _ _ _ => []
  | .mcrr _ _ _ _ _ _ => []
  | .mcrr2 _ _ _ _ _ => []
  | .mla _ _ rd _ _ _ => [rd]
  | .mov _ _ rd _ => [rd]
  | .mrc _ _ _ rd _ _ _ => [rd]
  | .mrc2 _ _ rd _ _ _ => [rd]
  | .mrrc _ rn rd _ _ _ => [rd, rn]
  | .mrrc2 rn rd _ _ _ => [rd, rn]
  | .mrs _ _ rd => [rd]
  | .msrImm _ _ _ _ _ => []
  | .msrReg _ _ _ _ => []
  | .mul _ _ rd _ _ => [rd]
  | .mvn _ _ rd _ => [rd]
  | .orr _ _ _ rd _ => [rd]
  | .pkhbt _ _ rd _ _ => [rd]
  | .pkhtb _ _ rd _ _ => [rd]
  | .pld _ _ _ => []
  | .qadd _ _ rd _ => [rd]
  | .qadd16 _ _ rd _ => [rd]
  | .qadd8 _ _ rd _ => [rd]
  | .qaddsubx _ _ rd _ => [rd]
  | .qdadd _ _ rd _ => [rd]
  | .qdsub _ _ rd _ => [rd]
  | .qsub _ _ rd _ => [rd]
  | .qsub16 _ _ rd _ => [rd]
  | .qsub8 _ _ rd _ => [rd]
  | .qsubaddx _ _ rd _ => [rd]
  | .rev _ rd _ => [rd]
  | .rev16 _ rd _ => [rd]
  | .revsh _ rd _ => [rd]
  | .rfe _ wb rn => if wb then [rn] else []
  | .rsb _ _ _ rd _ => [rd]
  | .rsc _ _ _ rd _ => [rd]
  | .sadd16 _ _ rd _ => [rd]
  | .sadd8 _ _ rd _ => [rd]
  | .saddsubx _ _ rd _ => [rd]
  | .sbc _ _ _ rd _ => [rd]
  | .sel _ _ rd _ => [rd]
  | .setend _ => []
  | .shadd16 _ _ rd _ => [rd]
  | .shadd8 _ _ rd _ => [rd]
  | .shaddsubx _ _ rd _ => [rd]
  | .shsub16 _ _ rd _ => [rd]
  | .shsub8 _ _ rd _ => [rd]
  | .shsubaddx _ _ rd _ => [rd]
  | .smlaxy _ rd _ _ _ _ _ => [rd]
  | .smlad _ rd _ _ _ _ => [rd]
  | .smlal _ _ rdHi rdLo _ _ => [rdHi, rdLo]
  | .smlalxy _ rdHi rdLo _ _ _ _ => [rdHi, rdLo]
  | .smlald _ rdHi rdLo _ _ _ => [rdHi, rdLo]
  | .smlawy _ rd _ _ _ _ => [rd]
  | .smlsd _ rd _ _ _ _ => [rd]
  | .smlsld _ rdHi rdLo _ _ _ => [rdHi, rdLo]
  | .smmla _ rd _ _ _ _ => [rd]
  | .smmls _ rd _ _ _ _ => [rd]
  | .smmul _ rd _ _ _ => [rd]
  | .smuad _ rd _ _ _ => [rd]
  | .smulxy _ rd _ _ _ _ => [rd]
  | .smull _ _ rdHi rdLo _ _ => [rdHi, rdLo]
  | .smulwy _ rd _ _ _ => [rd]
  | .smusd _ rd _ _ _ => [rd]
  | .srs _ _ _ => []
  | .ssat _ _ rd _ _ _ => [rd]
  | .ssat16 _ _ rd _ => [rd]
  | .ssub16 _ _ rd _ => [rd]
  | .ssub8 _ _ rd _ => [rd]
  | .ssubaddx _ _ rd _ => [rd]
  | .stc _ am _ rn _ _ _ => if am.w then [rn] else []
  | .stc2 am _ rn _ _ _ => if am.w then [rn] else []
  | .stm1 _ _ wb rn _ => if wb then [rn] else []
  | .stm2 _ _ _ _ => []
  | .str _ ix _ rn _ _ => if Index2.writes ix then [rn] else []
  | .strb _ ix _ rn _ _ => if Index2.writes ix then [rn] else []
  | .strbt _ _ rn _ _ => [rn]
  | .strd _ ix _ rn _ _ => if Index3.writes ix then [rn] else []
  | .strex _ _ rd _ => [rd]
  | .strh _ ix _ rn _ _ => if Index3.writes ix then [rn] else []
  | .strt _ _ rn _ _ => [rn]
  | .sub _ _ _ rd _ => [rd]
  | .swi _ _ => []
  | .swp _ _ rd _ => [rd]
  | .swpb _ _ rd _ => [rd]
  | .sxtab _ _ rd _ _ => [rd]
  | .sxtab16 _ _ rd _ _ => [rd]
  | .sxtah _ _ rd _ _ => [rd]
  | .sxtb _ rd _ _ => [rd]
  | .sxtb16 _ rd _ _ => [rd]
  | .sxth _ rd _ _ => [rd]
  | .teq _ _ _ => []
  | .tst _ _ _ => []
  | .uadd16 _ _ rd _ => [rd]
  | .uadd8 _ _ rd _ => [rd]
  | .uaddsubx _ _ rd _ => [rd]
  | .uhadd16 _ _ rd _ => [rd]
  | .uhadd8 _ _ rd _ => [rd]
  | .uhaddsubx _ _ rd _ => [rd]
  | .uhsub16 _ _ rd _ => [rd]
  | .uhsub8 _ _ rd _ => [rd]
  | .uhsubaddx _ _ rd _ => [rd]
  | .umaal _ rdHi rdLo _ _ => [rdHi, rdLo]
  | .umlal _ _ rdHi rdLo _ _ => [rdHi, rdLo]
  | .umull _ _ rdHi rdLo _ _ => [rdHi, rdLo]
  | .uqadd16 _ _ rd _ => [rd]
  | .uqadd8 _ _ rd _ => [rd]
  | .uqaddsubx _ _ rd _ => [rd]
  | .uqsub16 _ _ rd _ => [rd]
  | .uqsub8 _ _ rd _ => [rd]
  | .uqsubaddx _ _ rd _ => [rd]
  | .usad8 _ rd _ _ => [rd]
  | .usada8 _ rd _ _ _ => [rd]
  | .usat _ _ rd _ _ _ => [rd]
  | .usat16 _ _ rd _ => [rd]
  | .usub16 _ _ rd _ => [rd]
  | .usub8 _ _ rd _ => [rd]
  | .usubaddx _ _ rd _ => [rd]
  | .uxtab _ _ rd _ _ => [rd]
  | .uxtab16 _ _ rd _ _ => [rd]
  | .uxtah _ _ rd _ _ => [rd]
  | .uxtb _ rd _ _ => [rd]
  | .uxtb16 _ rd _ _ => [rd]
  | .uxth _ rd _ _ => [rd]

/-- The registers an instruction may write by its own effect, in the bank of the current mode but for the two forms of
R43: LDM (2) writes the User mode registers of its list, and SRS the R13 of the mode it names. -/
def destPhys (i : Instr) (s : State) : List PhysReg :=
  match i with
  | .ldm2 _ _ _ list => (listRegs (list.setWidth 16)).filterMap (physReg .usr)
  | .srs _ wb mode =>
    match wb, Mode.ofCode mode with
    | true, some m => [bankedReg m 13]
    | _, _ => []
  | i => (destRegs i).filterMap (physReg s.mode)

/-- The bits of the CPSR an instruction may write by its own effect; every instruction not listed writes none. -/
def cpsrWritten (i : Instr) (s : State) : Word :=
  match i with
  | .adc _ sf _ rd _ => if sf then (if rd = 15 then 0xFFFFFFFF else 0xF0000000) else 0
  | .add _ sf _ rd _ => if sf then (if rd = 15 then 0xFFFFFFFF else 0xF0000000) else 0
  | .rsb _ sf _ rd _ => if sf then (if rd = 15 then 0xFFFFFFFF else 0xF0000000) else 0
  | .rsc _ sf _ rd _ => if sf then (if rd = 15 then 0xFFFFFFFF else 0xF0000000) else 0
  | .sbc _ sf _ rd _ => if sf then (if rd = 15 then 0xFFFFFFFF else 0xF0000000) else 0
  | .sub _ sf _ rd _ => if sf then (if rd = 15 then 0xFFFFFFFF else 0xF0000000) else 0
  | .and _ sf _ rd _ => if sf then (if rd = 15 then 0xFFFFFFFF else 0xE0000000) else 0
  | .bic _ sf _ rd _ => if sf then (if rd = 15 then 0xFFFFFFFF else 0xE0000000) else 0
  | .eor _ sf _ rd _ => if sf then (if rd = 15 then 0xFFFFFFFF else 0xE0000000) else 0
  | .mov _ sf rd _ => if sf then (if rd = 15 then 0xFFFFFFFF else 0xE0000000) else 0
  | .mvn _ sf rd _ => if sf then (if rd = 15 then 0xFFFFFFFF else 0xE0000000) else 0
  | .orr _ sf _ rd _ => if sf then (if rd = 15 then 0xFFFFFFFF else 0xE0000000) else 0
  | .cmn _ _ _ => 0xF0000000
  | .cmp _ _ _ => 0xF0000000
  | .teq _ _ _ => 0xE0000000
  | .tst _ _ _ => 0xE0000000
  | .mul _ sf _ _ _ => if sf then (if s.arch.atLeastV5 then 0xC0000000 else 0xE0000000) else 0
  | .mla _ sf _ _ _ _ => if sf then (if s.arch.atLeastV5 then 0xC0000000 else 0xE0000000) else 0
  | .smull _ sf _ _ _ _ => if sf then (if s.arch.atLeastV5 then 0xC0000000 else 0xF0000000) else 0
  | .smlal _ sf _ _ _ _ => if sf then (if s.arch.atLeastV5 then 0xC0000000 else 0xF0000000) else 0
  | .umull _ sf _ _ _ _ => if sf then (if s.arch.atLeastV5 then 0xC0000000 else 0xF0000000) else 0
  | .umlal _ sf _ _ _ _ => if sf then (if s.arch.atLeastV5 then 0xC0000000 else 0xF0000000) else 0
  | .smlaxy _ _ _ _ _ _ _ => 0x08000000
  | .smlawy _ _ _ _ _ _ => 0x08000000
  | .smlad _ _ _ _ _ _ => 0x08000000
  | .smlsd _ _ _ _ _ _ => 0x08000000
  | .smuad _ _ _ _ _ => 0x08000000
  | .qadd _ _ _ _ => 0x08000000
  | .qdadd _ _ _ _ => 0x08000000
  | .qdsub _ _ _ _ => 0x08000000
  | .qsub _ _ _ _ => 0x08000000
  | .ssat _ _ _ _ _ _ => 0x08000000
  | .ssat16 _ _ _ _ => 0x08000000
  | .usat _ _ _ _ _ _ => 0x08000000
  | .usat16 _ _ _ _ => 0x08000000
  | .sadd16 _ _ _ _ => 0x000F0000
  | .sadd8 _ _ _ _ => 0x000F0000
  | .saddsubx _ _ _ _ => 0x000F0000
  | .ssub16 _ _ _ _ => 0x000F0000
  | .ssub8 _ _ _ _ => 0x000F0000
  | .ssubaddx _ _ _ _ => 0x000F0000
  | .uadd16 _ _ _ _ => 0x000F0000
  | .uadd8 _ _ _ _ => 0x000F0000
  | .uaddsubx _ _ _ _ => 0x000F0000
  | .usub16 _ _ _ _ => 0x000F0000
  | .usub8 _ _ _ _ => 0x000F0000
  | .usubaddx _ _ _ _ => 0x000F0000
  | .blx1 _ _ => 0x00000020
  | .blx2 _ _ => 0x00000020
  | .bx _ _ => 0x00000020
  | .bxj _ _ => 0x00000020
  | .ldr _ _ _ _ rd _ => if rd = 15 && s.arch.atLeastV5 then 0x00000020 else 0
  | .ldm1 _ _ _ _ list => if list.getLsbD 15 && s.arch.atLeastV5 then 0x00000020 else 0
  | .ldm3 _ _ _ _ _ => 0xFFFFFFFF
  | .rfe _ _ _ => 0xFFFFFFFF
  | .msrImm _ r mask _ _ => if r then 0 else msrCpsrMask s mask
  | .msrReg _ r mask _ => if r then 0 else msrCpsrMask s mask
  | .cps imod mmod a ib f _ => if s.mode.privileged then (if imod.getLsbD 1 then (if a then 0x100 else 0) ||| (if ib then 0x80 else 0) ||| (if f then 0x40 else 0) else 0)
      ||| (if mmod then 0x1F else 0) else 0
  | .setend _ => 0x00000200
  | .mrc _ _ _ rd _ _ _ => if rd = 15 then 0xF0000000 else 0
  | .mrc2 _ _ rd _ _ _ => if rd = 15 then 0xF0000000 else 0
  | _ => 0

/-- The exceptions an instruction may take (R560, R563 to R566); every instruction not listed takes none. -/
def mayTake (i : Instr) : List Exception :=
  match i with
  | .swi _ _ => [.softwareInterrupt]
  | .bkpt _ => [.prefetchAbort]
  | .ldrd _ _ _ _ _ _ => [.undefinedInstruction, .dataAbort]
  | .strd _ _ _ _ _ _ => [.undefinedInstruction, .dataAbort]
  | .ldc _ _ _ _ _ _ _ => [.undefinedInstruction, .dataAbort]
  | .ldc2 _ _ _ _ _ _ => [.undefinedInstruction, .dataAbort]
  | .stc _ _ _ _ _ _ _ => [.undefinedInstruction, .dataAbort]
  | .stc2 _ _ _ _ _ _ => [.undefinedInstruction, .dataAbort]
  | .cdp _ _ _ _ _ _ _ => [.undefinedInstruction]
  | .cdp2 _ _ _ _ _ _ => [.undefinedInstruction]
  | .mcr _ _ _ _ _ _ _ => [.undefinedInstruction]
  | .mcr2 _ _ _ _ _ _ => [.undefinedInstruction]
  | .mcrr _ _ _ _ _ _ => [.undefinedInstruction]
  | .mcrr2 _ _ _ _ _ => [.undefinedInstruction]
  | .mrc _ _ _ _ _ _ _ => [.undefinedInstruction]
  | .mrc2 _ _ _ _ _ _ => [.undefinedInstruction]
  | .mrrc _ _ _ _ _ _ => [.undefinedInstruction]
  | .mrrc2 _ _ _ _ _ => [.undefinedInstruction]
  | .ldm1 _ _ _ _ _ => [.dataAbort]
  | .ldm2 _ _ _ _ => [.dataAbort]
  | .ldm3 _ _ _ _ _ => [.dataAbort]
  | .ldr _ _ _ _ _ _ => [.dataAbort]
  | .ldrb _ _ _ _ _ _ => [.dataAbort]
  | .ldrbt _ _ _ _ _ => [.dataAbort]
  | .ldrex _ _ _ => [.dataAbort]
  | .ldrh _ _ _ _ _ _ => [.dataAbort]
  | .ldrsb _ _ _ _ _ _ => [.dataAbort]
  | .ldrsh _ _ _ _ _ _ => [.dataAbort]
  | .ldrt _ _ _ _ _ => [.dataAbort]
  | .rfe _ _ _ => [.dataAbort]
  | .srs _ _ _ => [.dataAbort]
  | .stm1 _ _ _ _ _ => [.dataAbort]
  | .stm2 _ _ _ _ => [.dataAbort]
  | .str _ _ _ _ _ _ => [.dataAbort]
  | .strb _ _ _ _ _ _ => [.dataAbort]
  | .strbt _ _ _ _ _ => [.dataAbort]
  | .strex _ _ _ _ => [.dataAbort]
  | .strh _ _ _ _ _ _ => [.dataAbort]
  | .strt _ _ _ _ _ => [.dataAbort]
  | .swp _ _ _ _ => [.dataAbort]
  | .swpb _ _ _ _ => [.dataAbort]
  | _ => []

/-- The bytes a single store writes: its address, by the functions its meaning uses, and how many. -/
def rangeOf (_s : State) (access : Exec Access) (align : Word → Exec Word) (n : Nat) : Option (Word × Nat) :=
  match access with
  | .ok acc =>
    match align acc.address with
    | .ok a => some (a, n)
    | .error _ => none
  | .error _ => none

/-- The bytes a multiple store of `n` words writes. -/
def blockRange (s : State) (start : Word) (n : Nat) : Option (Word × Nat) :=
  match blockStart s start n with
  | .ok a => some (a, 4 * n)
  | .error _ => none

/-- The bytes an STC writes. -/
def coprocRange (s : State) (am : Mode5) (rn : Reg) (cp : BitVec 4) (off : BitVec 8) (w : Word) : Option (Word × Nat) :=
  match address5 s am rn off, askCoproc s cp w with
  | .ok acc, .ok (_, n) =>
    match multipleStart s acc.address with
    | .ok a => some (a, 4 * n)
    | .error _ => none
  | _, _ => none

/-- The bytes an instruction may store to, as an address and a length; every instruction not listed stores nothing. -/
def storeRange (i : Instr) (s : State) : Option (Word × Nat) :=
  match i with
  | .str _ ix up rn _ off => rangeOf s (address2 s ix up rn off) (storeWordAddress s) 4
  | .strt _ up rn _ off => rangeOf s (address2 s .post up rn off) (storeWordAddress s) 4
  | .strb _ ix up rn _ off => rangeOf s (address2 s ix up rn off) .ok 1
  | .strbt _ up rn _ off => rangeOf s (address2 s .post up rn off) .ok 1
  | .strh _ ix up rn _ off => rangeOf s (address3 s ix up rn off) .ok 2
  | .strd _ ix up rn _ off => rangeOf s (address3 s ix up rn off) .ok 8
  | .stm1 _ am _ rn list => blockRange s (listAddress s am rn list).1 (listRegs list).length
  | .stm2 _ am rn list => blockRange s (listAddress s am rn list).1 (listRegs list).length
  | .srs am _ mode => match Mode.ofCode mode with
    | some m => blockRange s (mode4 am (s.readRegIn m 13) 8).1 2
    | none => none
  | .stc c am long rn crd cp off => coprocRange s am rn cp off (encode (.stc c am long rn crd cp off))
  | .stc2 am long rn crd cp off => coprocRange s am rn cp off (encode (.stc2 am long rn crd cp off))
  | .strex _ rn _ _ => some (s.readReg rn, 4)
  | .swp _ rn _ _ => match swapAddress s (s.readReg rn) with
    | .ok a => some (a, 4)
    | .error _ => none
  | .swpb _ rn _ _ => some (s.readReg rn, 1)
  | _ => none

/-- Whether the address `a` is none of the bytes of a range. -/
def outside (a : Word) (range : Option (Word × Nat)) : Prop :=
  ∀ base n, range = some (base, n) → ∀ k < n, a ≠ base + BitVec.ofNat 32 k

/-- `t` is `s` after it took the exception `e` (R570): the entry's state, but for what an aborted LDREX may mark. -/
def State.took (s : State) (e : Exception) (t : State) : Prop :=
  t = { enterException e s with
        localMonitor := t.localMonitor, globalMonitor := t.globalMonitor, freeCount := t.freeCount }

/-- `t` is `s` after it took one of the exceptions of the instruction `i`. -/
def State.tookOne (s : State) (i : Instr) (t : State) : Prop := ∃ e ∈ mayTake i, s.took e t

/-- The coprocessor an instruction names, if any. -/
def coprocOf (i : Instr) : Option (BitVec 4) :=
  match i with
  | .cdp _ _ _ _ cp _ _ => some cp
  | .cdp2 _ _ _ cp _ _ => some cp
  | .ldc _ _ _ _ _ cp _ => some cp
  | .ldc2 _ _ _ _ cp _ => some cp
  | .mcr _ _ _ _ cp _ _ => some cp
  | .mcr2 _ _ _ cp _ _ => some cp
  | .mcrr _ _ _ cp _ _ => some cp
  | .mcrr2 _ _ cp _ _ => some cp
  | .mrc _ _ _ _ cp _ _ => some cp
  | .mrc2 _ _ _ cp _ _ => some cp
  | .mrrc _ _ _ cp _ _ => some cp
  | .mrrc2 _ _ cp _ _ => some cp
  | .stc _ _ _ _ _ cp _ => some cp
  | .stc2 _ _ _ _ cp _ => some cp
  | _ => none

/-- Whether an instruction is an MSR to the SPSR, the one instruction that writes it (R61). -/
def writesSpsr (i : Instr) : Bool :=
  match i with
  | .msrImm _ r _ _ _ => r
  | .msrReg _ r _ _ => r
  | _ => false

/-- Whether an instruction is LDREX or STREX, the two that write the local monitor (R66). -/
def writesLocalMonitor (i : Instr) : Bool :=
  match i with
  | .ldrex .. => true
  | .strex .. => true
  | _ => false

/-- Whether an instruction is LDM (2) or STM (2), the two that arm the hazard of R630. -/
def armsHazard (i : Instr) : Bool :=
  match i with
  | .ldm2 .. => true
  | .stm2 .. => true
  | _ => false

/-- Whether an instruction may draw a free value: a multiply with S before ARMv5 (log entry 5), an LDM or STM (1) with
write-back and its base in the list (log entries 6 and 7), and an LDREX, which may abort (log entry 10). -/
def drawsFree (i : Instr) (s : State) : Bool :=
  match i with
  | .mul _ sf _ _ _ => sf && !s.arch.atLeastV5
  | .mla _ sf _ _ _ _ => sf && !s.arch.atLeastV5
  | .smull _ sf _ _ _ _ => sf && !s.arch.atLeastV5
  | .smlal _ sf _ _ _ _ => sf && !s.arch.atLeastV5
  | .umull _ sf _ _ _ _ => sf && !s.arch.atLeastV5
  | .umlal _ sf _ _ _ _ => sf && !s.arch.atLeastV5
  | .ldm1 _ _ wb rn list => wb && list.getLsbD rn.toNat
  | .ldm3 _ _ wb rn list => wb && list.getLsbD rn.toNat
  | .stm1 _ _ wb rn list => wb && list.getLsbD rn.toNat && listRank list rn != 0
  | .ldrex .. => true
  | _ => false

/-- Whether an instruction is unconditional: bits 31:28 of its word are 1111 (R144). -/
def unconditional (i : Instr) : Bool :=
  match i with
  | .blx1 .. => true
  | .cps .. => true
  | .pld .. => true
  | .rfe .. => true
  | .setend .. => true
  | .srs .. => true
  | .cdp2 .. => true
  | .ldc2 .. => true
  | .stc2 .. => true
  | .mcr2 .. => true
  | .mrc2 .. => true
  | .mcrr2 .. => true
  | .mrrc2 .. => true
  | _ => false

/-- Whether R15 stands in a register field where the rule of the instruction makes that UNPREDICTABLE. -/
def pcForbidden (i : Instr) : Bool :=
  match i with
  | .adc _ _ rn rd op => !operand2Allowed [rn, rd] op
  | .add _ _ rn rd op => !operand2Allowed [rn, rd] op
  | .and _ _ rn rd op => !operand2Allowed [rn, rd] op
  | .bic _ _ rn rd op => !operand2Allowed [rn, rd] op
  | .eor _ _ rn rd op => !operand2Allowed [rn, rd] op
  | .orr _ _ rn rd op => !operand2Allowed [rn, rd] op
  | .rsb _ _ rn rd op => !operand2Allowed [rn, rd] op
  | .rsc _ _ rn rd op => !operand2Allowed [rn, rd] op
  | .sbc _ _ rn rd op => !operand2Allowed [rn, rd] op
  | .sub _ _ rn rd op => !operand2Allowed [rn, rd] op
  | .mov _ _ rd op => !operand2Allowed [rd] op
  | .mvn _ _ rd op => !operand2Allowed [rd] op
  | .cmn _ rn op => !operand2Allowed [rn] op
  | .cmp _ rn op => !operand2Allowed [rn] op
  | .teq _ rn op => !operand2Allowed [rn] op
  | .tst _ rn op => !operand2Allowed [rn] op
  | .clz _ rd rm => rd == 15 || rm == 15
  | .mla _ _ rd rn rs rm => rd == 15 || rn == 15 || rs == 15 || rm == 15
  | .mul _ _ rd rs rm => rd == 15 || rs == 15 || rm == 15
  | .pkhbt _ rn rd _ rm => rn == 15 || rd == 15 || rm == 15
  | .pkhtb _ rn rd _ rm => rn == 15 || rd == 15 || rm == 15
  | .qadd _ rn rd rm => rn == 15 || rd == 15 || rm == 15
  | .qadd16 _ rn rd rm => rn == 15 || rd == 15 || rm == 15
  | .qadd8 _ rn rd rm => rn == 15 || rd == 15 || rm == 15
  | .qaddsubx _ rn rd rm => rn == 15 || rd == 15 || rm == 15
  | .qdadd _ rn rd rm => rn == 15 || rd == 15 || rm == 15
  | .qdsub _ rn rd rm => rn == 15 || rd == 15 || rm == 15
  | .qsub _ rn rd rm => rn == 15 || rd == 15 || rm == 15
  | .qsub16 _ rn rd rm => rn == 15 || rd == 15 || rm == 15
  | .qsub8 _ rn rd rm => rn == 15 || rd == 15 || rm == 15
  | .qsubaddx _ rn rd rm => rn == 15 || rd == 15 || rm == 15
  | .rev _ rd rm => rd == 15 || rm == 15
  | .rev16 _ rd rm => rd == 15 || rm == 15
  | .revsh _ rd rm => rd == 15 || rm == 15
  | .sadd16 _ rn rd rm => rn == 15 || rd == 15 || rm == 15
  | .sadd8 _ rn rd rm => rn == 15 || rd == 15 || rm == 15
  | .saddsubx _ rn rd rm => rn == 15 || rd == 15 || rm == 15
  | .sel _ rn rd rm => rn == 15 || rd == 15 || rm == 15
  | .shadd16 _ rn rd rm => rn == 15 || rd == 15 || rm == 15
  | .shadd8 _ rn rd rm => rn == 15 || rd == 15 || rm == 15
  | .shaddsubx _ rn rd rm => rn == 15 || rd == 15 || rm == 15
  | .shsub16 _ rn rd rm => rn == 15 || rd == 15 || rm == 15
  | .shsub8 _ rn rd rm => rn == 15 || rd == 15 || rm == 15
  | .shsubaddx _ rn rd rm => rn == 15 || rd == 15 || rm == 15
  | .smlaxy _ rd rn rs _ _ rm => rd == 15 || rn == 15 || rs == 15 || rm == 15
  | .smlad _ rd _ rs _ rm => rd == 15 || rs == 15 || rm == 15
  | .smlal _ _ rdHi rdLo rs rm => rdHi == 15 || rdLo == 15 || rs == 15 || rm == 15
  | .smlalxy _ rdHi rdLo rs _ _ rm => rdHi == 15 || rdLo == 15 || rs == 15 || rm == 15
  | .smlald _ rdHi rdLo rs _ rm => rdHi == 15 || rdLo == 15 || rs == 15 || rm == 15
  | .smlawy _ rd rn rs _ rm => rd == 15 || rn == 15 || rs == 15 || rm == 15
  | .smlsd _ rd _ rs _ rm => rd == 15 || rs == 15 || rm == 15
  | .smlsld _ rdHi rdLo rs _ rm => rdHi == 15 || rdLo == 15 || rs == 15 || rm == 15
  | .smmla _ rd _ rs _ rm => rd == 15 || rs == 15 || rm == 15
  | .smmls _ rd rn rs _ rm => rd == 15 || rn == 15 || rs == 15 || rm == 15
  | .smmul _ rd rs _ rm => rd == 15 || rs == 15 || rm == 15
  | .smuad _ rd rs _ rm => rd == 15 || rs == 15 || rm == 15
  | .smulxy _ rd rs _ _ rm => rd == 15 || rs == 15 || rm == 15
  | .smull _ _ rdHi rdLo rs rm => rdHi == 15 || rdLo == 15 || rs == 15 || rm == 15
  | .smulwy _ rd rs _ rm => rd == 15 || rs == 15 || rm == 15
  | .smusd _ rd rs _ rm => rd == 15 || rs == 15 || rm == 15
  | .ssat _ _ rd _ _ rm => rd == 15 || rm == 15
  | .ssat16 _ _ rd rm => rd == 15 || rm == 15
  | .ssub16 _ rn rd rm => rn == 15 || rd == 15 || rm == 15
  | .ssub8 _ rn rd rm => rn == 15 || rd == 15 || rm == 15
  | .ssubaddx _ rn rd rm => rn == 15 || rd == 15 || rm == 15
  | .sxtab _ _ rd _ rm => rd == 15 || rm == 15
  | .sxtab16 _ _ rd _ rm => rd == 15 || rm == 15
  | .sxtah _ _ rd _ rm => rd == 15 || rm == 15
  | .sxtb _ rd _ rm => rd == 15 || rm == 15
  | .sxtb16 _ rd _ rm => rd == 15 || rm == 15
  | .sxth _ rd _ rm => rd == 15 || rm == 15
  | .uadd16 _ rn rd rm => rn == 15 || rd == 15 || rm == 15
  | .uadd8 _ rn rd rm => rn == 15 || rd == 15 || rm == 15
  | .uaddsubx _ rn rd rm => rn == 15 || rd == 15 || rm == 15
  | .uhadd16 _ rn rd rm => rn == 15 || rd == 15 || rm == 15
  | .uhadd8 _ rn rd rm => rn == 15 || rd == 15 || rm == 15
  | .uhaddsubx _ rn rd rm => rn == 15 || rd == 15 || rm == 15
  | .uhsub16 _ rn rd rm => rn == 15 || rd == 15 || rm == 15
  | .uhsub8 _ rn rd rm => rn == 15 || rd == 15 || rm == 15
  | .uhsubaddx _ rn rd rm => rn == 15 || rd == 15 || rm == 15
  | .umaal _ rdHi rdLo rs rm => rdHi == 15 || rdLo == 15 || rs == 15 || rm == 15
  | .umlal _ _ rdHi rdLo rs rm => rdHi == 15 || rdLo == 15 || rs == 15 || rm == 15
  | .umull _ _ rdHi rdLo rs rm => rdHi == 15 || rdLo == 15 || rs == 15 || rm == 15
  | .uqadd16 _ rn rd rm => rn == 15 || rd == 15 || rm == 15
  | .uqadd8 _ rn rd rm => rn == 15 || rd == 15 || rm == 15
  | .uqaddsubx _ rn rd rm => rn == 15 || rd == 15 || rm == 15
  | .uqsub16 _ rn rd rm => rn == 15 || rd == 15 || rm == 15
  | .uqsub8 _ rn rd rm => rn == 15 || rd == 15 || rm == 15
  | .uqsubaddx _ rn rd rm => rn == 15 || rd == 15 || rm == 15
  | .usad8 _ rd rs rm => rd == 15 || rs == 15 || rm == 15
  | .usada8 _ rd _ rs rm => rd == 15 || rs == 15 || rm == 15
  | .usat _ _ rd _ _ rm => rd == 15 || rm == 15
  | .usat16 _ _ rd rm => rd == 15 || rm == 15
  | .usub16 _ rn rd rm => rn == 15 || rd == 15 || rm == 15
  | .usub8 _ rn rd rm => rn == 15 || rd == 15 || rm == 15
  | .usubaddx _ rn rd rm => rn == 15 || rd == 15 || rm == 15
  | .uxtab _ _ rd _ rm => rd == 15 || rm == 15
  | .uxtab16 _ _ rd _ rm => rd == 15 || rm == 15
  | .uxtah _ _ rd _ rm => rd == 15 || rm == 15
  | .uxtb _ rd _ rm => rd == 15 || rm == 15
  | .uxtb16 _ rd _ rm => rd == 15 || rm == 15
  | .uxth _ rd _ rm => rd == 15 || rm == 15
  | .blx2 _ rm => rm == 15
  | .bxj _ rm => rm == 15
  | .msrReg _ _ _ rm => rm == 15
  | .ldrb _ _ _ _ rd _ => rd == 15
  | .ldrbt _ _ _ rd _ => rd == 15
  | .ldrh _ _ _ _ rd _ => rd == 15
  | .ldrsb _ _ _ _ rd _ => rd == 15
  | .ldrsh _ _ _ _ rd _ => rd == 15
  | .ldrt _ _ _ rd _ => rd == 15
  | .mrs _ _ rd => rd == 15
  | .strb _ _ _ _ rd _ => rd == 15
  | .strbt _ _ _ rd _ => rd == 15
  | .strh _ _ _ _ rd _ => rd == 15
  | .mcr _ _ _ rd _ _ _ => rd == 15
  | .mcr2 _ _ rd _ _ _ => rd == 15
  | .ldrd _ _ _ _ rd _ => rd == 14
  | .strd _ _ _ _ rd _ => rd == 14
  | .ldrex _ rn rd => rn == 15 || rd == 15
  | .strex _ rn rd rm => rn == 15 || rd == 15 || rm == 15
  | .swp _ rn rd rm => rn == 15 || rd == 15 || rm == 15
  | .swpb _ rn rd rm => rn == 15 || rd == 15 || rm == 15
  | .mcrr _ rn rd _ _ _ => rn == 15 || rd == 15
  | .mcrr2 rn rd _ _ _ => rn == 15 || rd == 15
  | .mrrc _ rn rd _ _ _ => rn == 15 || rd == 15
  | .mrrc2 rn rd _ _ _ => rn == 15 || rd == 15
  | .ldm1 _ _ _ rn _ => rn == 15
  | .ldm2 _ _ rn _ => rn == 15
  | .ldm3 _ _ _ rn _ => rn == 15
  | .stm1 _ _ _ rn _ => rn == 15
  | .stm2 _ _ rn _ => rn == 15
  | .rfe _ _ rn => rn == 15
  | .pld _ _ off => offset2Reg off == some 15
  | _ => false

end Sys2Proof.Machine
end

