-- ==== Sys2Proof/Certificates/Slice0/Obligations.lean ====
section
/-! DEFINITION. Certificates/Slice0/Obligations.lean: the statements for the provers. A free value (log entries 5, 6, 7 and 10) is
named by `State.free`, so each statement holds whatever it is. -/

section Statements

open Sys2Proof Sys2Proof.Machine

/-! ### Encoding -/

/-- R140, R142, R190, R191, R196: the decoder gives back every well-formed instruction from its word, at every version
that has it. -/
def Obligations.DecodeEncode : Prop :=
  ∀ (a : Arch) (i : Instr), i.WellFormed a = true → i.existsIn a = true → decode a (encode i) = .instr i

/-- R17, R143, R144, R191, R196: a word that decodes to an instruction is the word of that instruction, bit for bit, which
is well-formed and exists at the version; its condition is bits 31:28, which are 1111 for the unconditional ones. -/
def Obligations.EncodeDecode : Prop :=
  ∀ (a : Arch) (w : Word) (i : Instr), decode a w = .instr i →
    encode i = w ∧ i.WellFormed a = true ∧ i.existsIn a = true ∧
    w.extractLsb' 28 4 = if unconditional i then 15 else (instrCond i).code

/-- The worked words of 44 to 49 decode to the instructions the spec says they are. -/
def Obligations.DecodesSpecWords : Prop :=
  decode .v6 0xE3C0001F = .instr (.bic .al false 0 0 (.imm 0 0x1F)) ∧
  decode .v6 0xE12FFF33 = .instr (.blx2 .al 3) ∧
  decode .v6 0xE7110042 = .instr (.ldr .al .offset false 1 0 (.reg 0 .asr 2)) ∧
  decode .v6 0xE05100F2 = .instr (.ldrsh .al .post false 1 0 (.imm 2)) ∧
  decode .v6 0xE8BD8030 = .instr (.ldm1 .al .ia true 13 0x8030) ∧
  decode .v6 0xF8BD0A00 = .instr (.rfe .ia true 13) ∧
  decode .v6 0xE1802F91 = .instr (.strex .al 0 2 1) ∧
  decode .v6 0xE16FF001 = .instr (.msrReg .al true 0xF 1) ∧
  decode .v6 0xF10A011F = .instr (.cps 2 true true false false 31) ∧
  decode .v6 0xEE1327A4 = .instr (.cdp .al 1 3 2 7 5 4) ∧
  decode .v6 0xECC21555 = .instr (.stc .al .unindexed true 2 1 5 0x55)

/-- R503: the four masks of each version, and that they divide the 32 bits. -/
def Obligations.PsrMasksPartition : Prop :=
  psrMasks .v4 = ⟨0x0FFFFF20, 0xF0000000, 0x000000DF, 0x00000000⟩ ∧
  psrMasks .v4T = ⟨0x0FFFFF00, 0xF0000000, 0x000000DF, 0x00000020⟩ ∧
  psrMasks .v5T = ⟨0x0FFFFF00, 0xF0000000, 0x000000DF, 0x00000020⟩ ∧
  psrMasks .v5TE = ⟨0x07FFFF00, 0xF8000000, 0x000000DF, 0x00000020⟩ ∧
  psrMasks .v5TExP = ⟨0x07FFFF00, 0xF8000000, 0x000000DF, 0x00000020⟩ ∧
  psrMasks .v5TEJ = ⟨0x06FFFF00, 0xF8000000, 0x000000DF, 0x01000020⟩ ∧
  psrMasks .v6 = ⟨0x06F0FC00, 0xF80F0200, 0x000001DF, 0x01000020⟩ ∧
  ∀ a : Arch,
    (psrMasks a).unalloc.toNat + (psrMasks a).user.toNat + (psrMasks a).priv.toNat + (psrMasks a).state.toNat = 0xFFFFFFFF ∧
    (psrMasks a).unalloc &&& (psrMasks a).user = 0 ∧ (psrMasks a).unalloc &&& (psrMasks a).priv = 0 ∧
    (psrMasks a).unalloc &&& (psrMasks a).state = 0 ∧ (psrMasks a).user &&& (psrMasks a).priv = 0 ∧
    (psrMasks a).user &&& (psrMasks a).state = 0 ∧ (psrMasks a).priv &&& (psrMasks a).state = 0

/-! ### The step -/

/-- R97, R580, R630: with no interrupt let through, in ARM state, when the four bytes at the pc hold values the program
has not written and make the word of an instruction that does not meet the hazard of R630, a step is that instruction
executed, between the waking and the settling of that hazard. -/
def Obligations.StepRunsDecoded : Prop :=
  ∀ s : State, s.supported → s.noInterrupt → s.inArm → (∀ k < 4, (s.pc + BitVec.ofNat 32 k).toNat ∉ s.written) →
    ∀ w, s.fetchedWord = some w → ∀ i, decode s.arch w = .instr i → meetsHazard i s.wake = false →
    step s =
      match exec i s.wake with
      | .next t => .next t.settle
      | .fault f => .fault f
      | .refused r => .refused r

/-- R48, R56, R58, R90, R93, R105, R120, R630: every step that goes on keeps the invariant: a legal mode, no unallocated PSR
bit, memory in its canonical form, every written byte with a value, one global mark of this processor, the pc aligned in
ARM state, the hazard settled; and (R67, R70) it changes no parameter and no input line. -/
def Obligations.StepKeepsWellFormed : Prop :=
  ∀ s : State, s.WellFormed → ∀ t, step s = .next t →
    t.WellFormed ∧ t.params = s.params ∧ t.irqLine = s.irqLine ∧ t.fiqLine = s.fiqLine ∧ t.abortLine = s.abortLine

/-- The state after reset meets the invariant, with every value of the parameters. Its SPSRs meet it by the values of log
entry 3, which are the model's choice. -/
def Obligations.ResetWellFormed : Prop := ∀ p : Params, (State.resetWith p).WellFormed

/-- R69, R561 (the Reset row), R620, R582: what reset leaves where the spec gives a value, with every value of the
parameters of R9; the machine of `core` starts with their defaults. The clause on memory is the model's: R69 leaves in it
the launch image, which is loaded from outside, and the model lists nothing (log entry 24). -/
def Obligations.ResetValues : Prop :=
  State.reset = State.resetWith Params.default ∧
  ∀ p : Params,
    let s := State.resetWith p
    psrMode s.cpsr = 0b10011 ∧ s.bitI = true ∧ s.bitF = true ∧ s.bitT = false ∧ s.bitJ = false ∧
    (p.arch = .v6 → s.bitA = true ∧ s.bitE = p.cp15EE) ∧
    s.pc = (if p.hivecs then 0xFFFF0000 else 0x00000000) ∧
    s.localMonitor = none ∧ s.globalMonitor = [] ∧ s.written = [] ∧ s.mem = [] ∧
    s.fiqLine = false ∧ s.irqLine = false ∧ s.abortLine = false ∧ s.params = p ∧
    (∀ k : Fin 16, s.coproc[k] = .absent)

/-- R16, R143, R145: the fifteen conditions by their codes; and whatever the instruction, when its condition fails on the
CPSR as it stands, only the pc advances. -/
def Obligations.ConditionsDecide : Prop :=
  ∀ (i : Instr) (s : State),
    (let n := s.cpsr.getLsbD 31
     let z := s.cpsr.getLsbD 30
     let c := s.cpsr.getLsbD 29
     let v := s.cpsr.getLsbD 28
     conditionPassed (instrCond i) s =
       [z, !z, c, !c, n, !n, v, !v, c && !z, !c || z, n == v, n != v, !z && (n == v), z || (n != v), true].getD
         (instrCond i).code.toNat false) ∧
    (conditionPassed (instrCond i) s = false → s.pc.toNat + 4 < 2 ^ 32 → exec i s = .next { s with pc := s.pc + 4 })

/-- R596, R597, R509 (b): from User mode a step stays in User mode, leaves A, I, F, every SPSR and every register of another
bank alone; or it takes an exception. -/
def Obligations.UserModeLeavesOnlyByException : Prop :=
  ∀ s : State, psrMode s.cpsr = 0b10000 → ∀ t, step s = .next t →
    (psrMode t.cpsr = 0b10000 ∧ t.cpsr &&& 0x1C0 = s.cpsr &&& 0x1C0 ∧ t.spsr = s.spsr ∧
      ∀ p, (∀ n, p ≠ .usr n) → t.readPhys p = s.readPhys p) ∨
    ∃ e, s.took e t

/-! ### Frames of all the instructions -/

/-- R42, R43, R240, R281, R340, R400, R452: an instruction that goes on takes one of its exceptions, or leaves every
register of every bank but its destinations as it was. -/
def Obligations.RegisterFrame : Prop :=
  ∀ (i : Instr) (s : State) (p : PhysReg), p ∉ destPhys i s → ∀ t, exec i s = .next t →
    s.tookOne i t ∨ t.readPhys p = s.readPhys p

/-- R52, R53, R54, R57, R61: an instruction that goes on takes one of its exceptions, or leaves every bit of the CPSR that
is not its own to write as it was, and every SPSR but the one MSR writes; and an instruction whose one CPSR bit is Q never
clears it. -/
def Obligations.StatusFrame : Prop :=
  ∀ (i : Instr) (s t : State), exec i s = .next t →
    s.tookOne i t ∨
    (t.cpsr &&& ~~~ cpsrWritten i s = s.cpsr &&& ~~~ cpsrWritten i s ∧
      (∀ m, (writesSpsr i = true → m ≠ s.mode) → t.spsr.get m = s.spsr.get m) ∧
      (cpsrWritten i s = 0x08000000 → s.flagQ = true → t.flagQ = true))

/-- R93, R106, R118, R128: an instruction that goes on leaves every byte as it was outside the bytes it stores to, which
its address gives by the functions of its meaning; and every byte, if it takes an exception, which is the spec's own
decision D28 and the model's choice (log entry 28). Outside them no byte comes to count as written. -/
def Obligations.MemoryFrame : Prop :=
  ∀ (i : Instr) (s : State) (a : Word) (t : State), exec i s = .next t → outside a (storeRange i s) ∨ s.tookOne i t →
    t.byteAt a = s.byteAt a ∧ (a.toNat ∈ t.written ↔ a.toNat ∈ s.written)

/-- R64, R66, R70, R125, R630: an instruction that goes on leaves every coprocessor but the one it names as it was; the
local monitor, unless it is LDREX or STREX; the global one, unless it is LDREX or stores; the set of written addresses,
unless it stores; the hazard, unless it is LDM (2) or STM (2); the count of free values, the model's own field, unless
`drawsFree` says it may draw one; and the parameters and the lines. -/
def Obligations.SystemFrame : Prop :=
  ∀ (i : Instr) (s t : State), exec i s = .next t →
    (∀ cp : BitVec 4, coprocOf i ≠ some cp → t.coproc[cp.toFin] = s.coproc[cp.toFin]) ∧
    (writesLocalMonitor i = false → t.localMonitor = s.localMonitor) ∧
    (writesLocalMonitor i = false → storeRange i s = none → t.globalMonitor = s.globalMonitor) ∧
    (storeRange i s = none → t.written = s.written) ∧
    (armsHazard i = false → t.bankHazard = s.bankHazard) ∧
    (drawsFree i s = false → t.freeCount = s.freeCount) ∧
    t.params = s.params ∧ t.irqLine = s.irqLine ∧ t.fiqLine = s.fiqLine ∧ t.abortLine = s.abortLine

/-! ### Exceptions -/

/-- R561, R570, R571: what exception entry saves and where, what the CPSR becomes, where the pc goes, and that nothing else
changes; with the mode, the link register and the vector of each exception. -/
def Obligations.ExceptionEntry : Prop :=
  ∀ (e : Exception) (s : State) (p : PhysReg),
    let t := enterException e s
    let base : Word := if s.params.hivecs then 0xFFFF0000 else 0
    (e.mode, e.link, vectorAddress s.params e - base) =
      (match e with
        | .undefinedInstruction => (.und, .und 1, 0x04)
        | .softwareInterrupt => (.svc, .svc 1, 0x08)
        | .prefetchAbort => (.abt, .abt 1, 0x0C)
        | .dataAbort => (.abt, .abt 1, 0x10)
        | .impreciseAbort => (.abt, .abt 1, 0x10)
        | .irq => (.irq, .irq 1, 0x18)
        | .fiq => (.fiq, .fiq 6, 0x1C)) ∧
    t.readPhys e.link = s.pc + (if e = .dataAbort then 8 else 4) ∧
    (p ≠ e.link → t.readPhys p = s.readPhys p) ∧
    t.spsr.get e.mode = some s.cpsr ∧ (∀ m, m ≠ e.mode → t.spsr.get m = s.spsr.get m) ∧
    t.cpsr = psrEntry s.cpsr (if s.isV6 then s.params.cp15EE else s.bitE)
      (s.bitA || (s.isV6 && e != .undefinedInstruction && e != .softwareInterrupt)) (s.bitF || e == .fiq) e.mode.code ∧
    t.pc = vectorAddress s.params e ∧
    t.mem = s.mem ∧ t.written = s.written ∧ t.localMonitor = s.localMonitor ∧ t.globalMonitor = s.globalMonitor ∧
    t.coproc = s.coproc ∧ t.irqLine = s.irqLine ∧ t.fiqLine = s.fiqLine ∧ t.abortLine = s.abortLine ∧
    t.bankHazard = s.bankHazard ∧ t.freeCount = s.freeCount ∧ t.params = s.params

/-- R507: SWI whose condition passes enters Supervisor mode: R14_svc, SPSR_svc, the CPSR and the pc. The premise on the
hazard is R630, that on the byte order R96. -/
def Obligations.SwiTaken : Prop :=
  ∀ (c : Cond) (imm : BitVec 24) (s : State), conditionPassed c s = true → s.entryOpen →
    exec (.swi c imm) s = .next { s with
      regs := s.regs.set (.svc 1) (s.pc + 4)
      spsr := { s.spsr with svc := s.cpsr }
      cpsr := psrEntry s.cpsr (if s.isV6 then s.params.cp15EE else s.bitE) s.bitA s.bitF 0b10011
      pc := if s.params.hivecs then 0xFFFF0008 else 0x00000008 }

/-- R508: BKPT enters Abort mode as a prefetch abort does; where debug hardware overrides it the model refuses. -/
def Obligations.BkptTaken : Prop :=
  ∀ (imm : BitVec 16) (s : State),
    (s.params.debugOverride = true → exec (.bkpt imm) s = .refused .debugOverride) ∧
    (s.params.debugOverride = false → s.entryOpen →
      exec (.bkpt imm) s = .next { s with
        regs := s.regs.set (.abt 1) (s.pc + 4)
        spsr := { s.spsr with abt := s.cpsr }
        cpsr := psrEntry s.cpsr (if s.isV6 then s.params.cp15EE else s.bitE) (s.bitA || s.isV6) s.bitF 0b10111
        pc := if s.params.hivecs then 0xFFFF000C else 0x0000000C })

/-- R92, R93, R100, R113, R117, R118, R565: the Data Abort of every load and store: a misaligned access where the alignment
bits ask for it, and an access to an address that holds no memory. That it is taken from the state before the
instruction, with no register and no byte changed, is the spec's own decision D28 and the model's choice (log entry 28),
and so is that an LDM or STM (1) with write-back and its base in the list gets so far (log entries 6 and 7); an aborted
LDREX may mark the monitors (log entry 10). -/
def Obligations.DataAborts : Prop :=
  ∀ (c : Cond) (up : Bool) (rn rd : Reg) (s : State), conditionPassed c s = true → s.entryOpen →
    let aborts (i : Instr) : Prop := exec i s = .next (enterException .dataAbort s)
    (∀ (ix : Index2) (off : Offset2) (acc : Access), address2 s ix up rn off = .ok acc →
      let a := acc.address
      let word : Word := if s.alignU then a else a &&& 0xFFFFFFFC
      let checked : Prop := low2 a ≠ 0 ∧ s.alignA = true
      let free : Prop := Index2.writes ix = true → rd ≠ rn
      (checked ∨ (s.readAborts word 4 ∧ (low2 a = 0 ∨ rd ≠ 15)) →
        (free → aborts (.ldr c ix up rn rd off)) ∧
        (ix = .post → rd ≠ rn → rd ≠ 15 → aborts (.ldrt c up rn rd off))) ∧
      (checked ∨ s.mappedBytes word 4 = false →
        (free → aborts (.str c ix up rn rd off)) ∧ (ix = .post → rd ≠ rn → aborts (.strt c up rn rd off))) ∧
      (rd ≠ 15 → s.mapped a = false →
        (free → aborts (.ldrb c ix up rn rd off) ∧ aborts (.strb c ix up rn rd off)) ∧
        (ix = .post → rd ≠ rn → aborts (.ldrbt c up rn rd off) ∧ aborts (.strbt c up rn rd off)))) ∧
    (∀ (ix : Index3) (off : Offset3) (acc : Access), address3 s ix up rn off = .ok acc →
      let a := acc.address
      let checked : Prop := a.getLsbD 0 = true ∧ s.alignA = true
      let able : Prop := a.getLsbD 0 = false ∨ s.alignU = true
      (rd ≠ 15 → (Index3.writes ix = true → rd ≠ rn) →
        (s.mapped a = false → aborts (.ldrsb c ix up rn rd off)) ∧
        (checked ∨ (able ∧ s.readAborts a 2) →
          aborts (.ldrh c ix up rn rd off) ∧ aborts (.ldrsh c ix up rn rd off)) ∧
        (checked ∨ (able ∧ s.mappedBytes a 2 = false) → aborts (.strh c ix up rn rd off))) ∧
      (rd.getLsbD 0 = false → rd ≠ 14 → (Index3.writes ix = true → rn ≠ rd ∧ rn ≠ rd + 1) →
        (if a.toNat % (if s.alignU then 4 else 8) ≠ 0 then s.alignA = true else s.mappedBytes a 8 = false) →
        (offsetInPair rd off = false → aborts (.ldrd c ix up rn rd off)) ∧ aborts (.strd c ix up rn rd off))) ∧
    (∀ (am : Mode4) (wb : Bool) (list : BitVec 16), rn ≠ 15 → list ≠ 0 →
      s.blockAborts (mode4 am (s.readReg rn) (4 * (listRegs list).length)).1 (listRegs list).length →
      aborts (.ldm1 c am wb rn list) ∧ aborts (.stm1 c am wb rn list) ∧
      (s.mode ≠ .usr → s.mode ≠ .sys →
        aborts (.stm2 c am rn list) ∧
        (∀ low : BitVec 15, list = low.setWidth 16 → aborts (.ldm2 c am rn low)) ∧
        (∀ low : BitVec 15, list = 1#1 ++ low → aborts (.ldm3 c am wb rn low)))) ∧
    (∀ (am : Mode4) (wb : Bool),
      (rn ≠ 15 → s.mode ≠ .usr → s.blockAborts (mode4 am (s.readReg rn) 8).1 2 → aborts (.rfe am wb rn)) ∧
      (∀ m : Mode, s.mode ≠ .usr → s.mode ≠ .sys → s.blockAborts (mode4 am (s.readRegIn m 13) 8).1 2 →
        aborts (.srs am wb m.code))) ∧
    (∀ m : Reg, m ≠ 15 → rn ≠ 15 → rd ≠ 15 →
      let a := s.readReg rn
      let misaligned : Prop := low2 a ≠ 0 ∧ (s.alignA = true ∨ s.alignU = true)
      (misaligned ∨ (low2 a = 0 ∧ s.readAborts a 4) →
        ∃ t, exec (.ldrex c rn rd) s = .next t ∧ s.took .dataAbort t) ∧
      (misaligned ∨ (low2 a = 0 ∧ s.mappedBytes a 4 = false) → rd ≠ rn → rd ≠ m → aborts (.strex c rn rd m)) ∧
      (misaligned ∨ s.readAborts (a &&& 0xFFFFFFFC) 4 → m ≠ rn → rd ≠ rn → aborts (.swp c rn rd m)) ∧
      (s.mapped a = false → m ≠ rn → rd ≠ rn → aborts (.swpb c rn rd m))) ∧
    (∀ (two long : Bool) (am : Mode5) (crd : Reg) (cp : BitVec 4) (off : BitVec 8) (acc : Access),
      address5 s am rn off = .ok acc → ∀ u, s.coproc[cp.toFin] = .present u →
      ∀ i, i = (if two then .ldc2 am long rn crd cp off else .ldc c am long rn crd cp off) ∨
          i = (if two then .stc2 am long rn crd cp off else .stc c am long rn crd cp off) →
        ∀ n, u.words (psrMode s.cpsr) (encode i) = some n →
        ((low2 acc.address ≠ 0 ∧ (s.alignA = true ∨ s.alignU = true)) ∨
          s.mappedBytes (acc.address &&& 0xFFFFFFFC) (4 * n) = false) → aborts i)

/-- R192 (a), R193, R413, R422, R532, R541, R563: the Undefined Instruction exception is taken by the Undefined pattern,
also when a step fetches it; by LDRD and STRD with an odd `Rd`; and by a coprocessor instruction, of either form, whose
coprocessor is absent or does not accept the word. That an odd `Rd` counts before an operand or form that is UNPREDICTABLE
is the model's choice (log entry 38). Coprocessors 14 and 15, mandatory at ARMv6 and not described, are
refused there when the model is given none. -/
def Obligations.UndefinedTaken : Prop :=
  ∀ (c : Cond) (s : State),
    (∀ (a : Arch) (mid : BitVec 12) (low : BitVec 4),
      decode a (c.code ++ (0x7F#8 ++ (mid ++ (0xF#4 ++ low)))) = .undefinedPattern c) ∧
    (s.supported → s.noInterrupt → s.inArm → s.bankHazard = .none → s.entryOpen →
      (∀ k < 4, (s.pc + BitVec.ofNat 32 k).toNat ∉ s.written) →
      ∀ w, s.fetchedWord = some w → decode s.arch w = .undefinedPattern c →
      (conditionPassed c s = true → step s = .next (enterException .undefinedInstruction s)) ∧
      (conditionPassed c s = false → s.pc.toNat + 4 < 2 ^ 32 → step s = .next s.past)) ∧
    (conditionPassed c s = true → s.entryOpen →
      ∀ (ix : Index3) (up : Bool) (rn rd : Reg) (off : Offset3), rd.getLsbD 0 = true →
      exec (.ldrd c ix up rn rd off) s = .next (enterException .undefinedInstruction s) ∧
      exec (.strd c ix up rn rd off) s = .next (enterException .undefinedInstruction s)) ∧
    (∀ (two : Bool) (cp : BitVec 4) (op1 : BitVec 4) (op3 op2 : BitVec 3) (crn crd crm rn rd : Reg) (am : Mode5)
        (long : Bool) (off : BitVec 8), (two = false → conditionPassed c s = true) → rd ≠ 15 → rn ≠ 15 → rn ≠ rd →
      ∀ i ∈ ([if two then .cdp2 op1 crn crd cp op2 crm else .cdp c op1 crn crd cp op2 crm,
          if two then .ldc2 am long rn crd cp off else .ldc c am long rn crd cp off,
          if two then .stc2 am long rn crd cp off else .stc c am long rn crd cp off,
          if two then .mcr2 op3 crn rd cp op2 crm else .mcr c op3 crn rd cp op2 crm,
          if two then .mrc2 op3 crn rd cp op2 crm else .mrc c op3 crn rd cp op2 crm,
          if two then .mcrr2 rn rd cp op1 crm else .mcrr c rn rd cp op1 crm,
          if two then .mrrc2 rn rd cp op1 crm else .mrrc c rn rd cp op1 crm] : List Instr),
        (s.entryOpen → s.coprocRejects cp i → exec i s = .next (enterException .undefinedInstruction s)) ∧
        (s.coproc[cp.toFin] = .absent → s.isV6 = true → 14 ≤ cp.toNat →
          exec i s = .refused (.coprocessorUndescribed cp.toNat)))

/-- R566 (b), R580, R585: at a boundary FIQ comes before IRQ, and IRQ before an imprecise abort, each when its line is
asserted and its mask is clear, before the fetch; then a fetch the memory map refuses takes the Prefetch Abort. That an
interrupt is taken where T or J is 1 is the model's choice (log entry 36). -/
def Obligations.BoundaryExceptions : Prop :=
  ∀ s : State, s.supported → s.bankHazard = .none → s.entryOpen →
    (s.fiqLine = true → s.bitF = false → step s = .next (enterException .fiq s)) ∧
    ((s.fiqLine && !s.bitF) = false → s.irqLine = true → s.bitI = false → step s = .next (enterException .irq s)) ∧
    ((s.fiqLine && !s.bitF) = false → (s.irqLine && !s.bitI) = false → s.isV6 = true → s.abortLine = true →
      s.bitA = false → step s = .next (enterException .impreciseAbort s)) ∧
    (s.noInterrupt → s.inArm → s.mappedBytes s.pc 4 = false → step s = .next (enterException .prefetchAbort s))

/-- R509 (e), R590 (a), R591: `MOVS PC, R14` right after SWI resumes at the instruction after the SWI with the CPSR
restored. -/
def Obligations.SwiReturns : Prop :=
  ∀ (c : Cond) (imm : BitVec 24) (s : State), conditionPassed c s = true → s.entryOpen → s.inArm → s.legalMode →
    s.cpsr &&& (psrMasks s.arch).unalloc = 0 →
    ∃ t, exec (.swi c imm) s = .next t ∧
      exec (.mov .al true 15 (.shiftImm 0 .lsl 14)) t = .next { t with cpsr := s.cpsr, pc := s.pc + 4 }

/-! ### Data processing -/

/-- R200, R201, R202, R204 to R219: the twelve instructions that write `Rd`, into a general register: the result and, with
S, the flags of the class; CPY copies a register, and CLZ counts the zero bits above the first one bit; everything else is
unchanged. -/
def Obligations.DataProcessingResults : Prop :=
  ∀ (k : DpOp) (c : Cond) (sf : Bool) (rn rd : Reg) (op : Operand2) (s : State), s.runs c → rd ≠ 15 →
    operand2Allowed (k.regs rn rd) op = true →
    let x := s.readReg rn
    let y := (shifterOperand s op).1
    let v := k.value x y s.flagC
    exec (k.instr c sf rn rd op) s = .next (s.result rd v
      (if sf then psrFlags s.cpsr v.msb (v == 0) (k.carry x y s.flagC (shifterOperand s op).2) (k.overflow x y v s.flagV)
       else s.cpsr)) ∧
    (∀ rm : Reg, exec (.cpy c rd rm) s = .next (s.result rd (s.readReg rm) s.cpsr) ∧
      (rm ≠ 15 → exec (.clz c rd rm) s = .next (s.result rd
        (if s.readReg rm = 0 then 32 else BitVec.ofNat 32 (31 - Nat.log2 (s.readReg rm).toNat)) s.cpsr)))

/-- R48, R201, R211, R590 (a): the twelve with `Rd` = R15, and CPY. Without S the pc takes a word-aligned result and the
CPSR is unchanged; with S the SPSR becomes the CPSR, and there is none in User and System mode. -/
def Obligations.DataProcessingToPc : Prop :=
  ∀ (k : DpOp) (c : Cond) (rn rm : Reg) (op : Operand2) (s : State), conditionPassed c s = true →
    operand2Allowed (k.regs rn 15) op = true →
    let v := k.value (s.readReg rn) (shifterOperand s op).1 s.flagC
    (v.extractLsb' 0 2 = 0 → exec (k.instr c false rn 15 op) s = .next { s with pc := v }) ∧
    (v.extractLsb' 0 2 ≠ 0 → stopsAs (exec (k.instr c false rn 15 op) s) .misalignedPc) ∧
    ((s.readReg rm).extractLsb' 0 2 = 0 → exec (.cpy c 15 rm) s = .next { s with pc := s.readReg rm }) ∧
    ((s.readReg rm).extractLsb' 0 2 ≠ 0 → stopsAs (exec (.cpy c 15 rm) s) .misalignedPc) ∧
    (s.spsr.get s.mode = none → stopsAs (exec (k.instr c true rn 15 op) s) .noSpsr) ∧
    (∀ x, s.spsr.get s.mode = some x → x &&& (psrMasks s.arch).unalloc = 0 → (Mode.ofCode (psrMode x)).isSome = true →
      (if x.getLsbD 5 then v.getLsbD 0 = false else x.getLsbD 24 = false → v.extractLsb' 0 2 = 0) →
      exec (k.instr c true rn 15 op) s = .next { s with cpsr := x, pc := v })

/-- R203, R209, R210, R220, R221: the four tests write the flags and nothing else. -/
def Obligations.TestResults : Prop :=
  ∀ (c : Cond) (rn : Reg) (op : Operand2) (s : State), s.runs c → operand2Allowed [rn] op = true →
    let x := s.readReg rn
    let y := (shifterOperand s op).1
    let carry := (shifterOperand s op).2
    exec (.cmp c rn op) s = .next { s with
      cpsr := psrFlags s.cpsr (x - y).msb (x == y) (decide (y.toNat ≤ x.toNat)) (x.msb != y.msb && (x - y).msb != x.msb)
      pc := s.pc + 4 } ∧
    exec (.cmn c rn op) s = .next { s with
      cpsr := psrFlags s.cpsr (x + y).msb (x + y == 0) (decide (2 ^ 32 ≤ x.toNat + y.toNat))
        (x.msb == y.msb && (x + y).msb != x.msb)
      pc := s.pc + 4 } ∧
    exec (.tst c rn op) s = .next { s with
      cpsr := psrFlags s.cpsr (x &&& y).msb (x &&& y == 0) carry s.flagV, pc := s.pc + 4 } ∧
    exec (.teq c rn op) s = .next { s with
      cpsr := psrFlags s.cpsr (x ^^^ y).msb (x == y) carry s.flagV, pc := s.pc + 4 }

/-- R151 to R161: the value and the carry of each shifter form, by arithmetic on the register's value. -/
def Obligations.ShifterForms : Prop :=
  ∀ (s : State) (rs rm : Reg) (amount : BitVec 5) (rot : BitVec 4) (imm : BitVec 8),
    let x := s.readReg rm
    let n := amount.toNat
    let k := if n = 0 then 32 else n
    let r := (s.readReg rs).toNat % 256
    shifterOperand s (.imm rot imm) =
      ((imm.setWidth 32).rotateRight (2 * rot.toNat),
       if rot = 0 then s.flagC else ((imm.setWidth 32).rotateRight (2 * rot.toNat)).msb) ∧
    shifterOperand s (.shiftImm amount .lsl rm) =
      (BitVec.ofNat 32 (x.toNat * 2 ^ n), if n = 0 then s.flagC else x.getLsbD (32 - n)) ∧
    shifterOperand s (.shiftImm amount .lsr rm) = (BitVec.ofNat 32 (x.toNat / 2 ^ k), x.getLsbD (k - 1)) ∧
    shifterOperand s (.shiftImm amount .asr rm) = (BitVec.ofInt 32 (x.toInt / 2 ^ k), x.getLsbD (k - 1)) ∧
    shifterOperand s (.shiftImm amount .ror rm) =
      (if n = 0 then (BitVec.ofBool s.flagC ++ x.extractLsb' 1 31, x.getLsbD 0)
       else ((x >>> n) ||| (x <<< (32 - n)), x.getLsbD (n - 1))) ∧
    shifterOperand s (.shiftReg rs .lsl rm) =
      (BitVec.ofNat 32 (x.toNat * 2 ^ r), if r = 0 then s.flagC else decide (r ≤ 32) && x.getLsbD (32 - r)) ∧
    shifterOperand s (.shiftReg rs .lsr rm) =
      (BitVec.ofNat 32 (x.toNat / 2 ^ r), if r = 0 then s.flagC else x.getLsbD (r - 1)) ∧
    shifterOperand s (.shiftReg rs .asr rm) =
      (BitVec.ofInt 32 (x.toInt / 2 ^ r), if r = 0 then s.flagC else if r ≤ 32 then x.getLsbD (r - 1) else x.msb) ∧
    shifterOperand s (.shiftReg rs .ror rm) =
      (x.rotateRight (r % 32),
       if r = 0 then s.flagC else if r % 32 = 0 then x.msb else x.getLsbD (r % 32 - 1))

/-! ### Multiply -/

/-- R243, R245, R246: MUL and MLA: the low word, and with S the flags of R243, where C is a free value before ARMv5 (log
entry 5). -/
def Obligations.MultiplyResults : Prop :=
  ∀ (c : Cond) (sf : Bool) (rd rn rs rm : Reg) (s : State), s.runs c → rd ≠ 15 → rs ≠ 15 → rm ≠ 15 →
    (s.isV6 = true ∨ rd ≠ rm) →
    let v := s.readReg rm * s.readReg rs
    let w := v + s.readReg rn
    exec (.mul c sf rd rs rm) s = .next ((s.result rd v s.cpsr).mulFlagged sf false v.msb (v == 0)) ∧
    (rn ≠ 15 → exec (.mla c sf rd rn rs rm) s = .next ((s.result rd w s.cpsr).mulFlagged sf false w.msb (w == 0)))

/-- R243, R249, R250, R251, R254, R260, R263, R264, R265: the multiplies with a 64-bit result, C and V before ARMv5 free
values (log entry 5). -/
def Obligations.LongMultiplyResults : Prop :=
  ∀ (c : Cond) (sf x y : Bool) (hi lo rs rm : Reg) (s : State), s.runs c → hi ≠ 15 → lo ≠ 15 → rs ≠ 15 → rm ≠ 15 →
    hi ≠ lo →
    let acc : BitVec 64 := s.readReg hi ++ s.readReg lo
    let up : BitVec 64 := (s.readReg rm).setWidth 64 * (s.readReg rs).setWidth 64
    let sp : BitVec 64 := (s.readReg rm).signExtend 64 * (s.readReg rs).signExtend 64
    let straight : BitVec 64 := (s.half rm false).signExtend 64 * (s.half rs x).signExtend 64
    let crossed : BitVec 64 := (s.half rm true).signExtend 64 * (s.half rs (!x)).signExtend 64
    (s.isV6 = true ∨ (hi ≠ rm ∧ lo ≠ rm) →
      exec (.umull c sf hi lo rs rm) s = .next ((s.resultPair hi lo up).mulFlagged sf true up.msb (up == 0)) ∧
      exec (.umlal c sf hi lo rs rm) s =
        .next ((s.resultPair hi lo (acc + up)).mulFlagged sf true (acc + up).msb (acc + up == 0)) ∧
      exec (.smull c sf hi lo rs rm) s = .next ((s.resultPair hi lo sp).mulFlagged sf true sp.msb (sp == 0)) ∧
      exec (.smlal c sf hi lo rs rm) s =
        .next ((s.resultPair hi lo (acc + sp)).mulFlagged sf true (acc + sp).msb (acc + sp == 0))) ∧
    exec (.umaal c hi lo rs rm) s =
      .next (s.resultPair hi lo (up + (s.readReg hi).setWidth 64 + (s.readReg lo).setWidth 64)) ∧
    exec (.smlalxy c hi lo rs y x rm) s =
      .next (s.resultPair hi lo (acc + (s.half rm x).signExtend 64 * (s.half rs y).signExtend 64)) ∧
    exec (.smlald c hi lo rs x rm) s = .next (s.resultPair hi lo (acc + straight + crossed)) ∧
    exec (.smlsld c hi lo rs x rm) s = .next (s.resultPair hi lo (acc + straight - crossed))

/-- R53, R241, R242, R247, R248, R252, R253, R258: the multiplies that set Q when the exact sum does not fit 32 signed
bits. -/
def Obligations.AccumulateResults : Prop :=
  ∀ (c : Cond) (x y : Bool) (rd rn rs rm : Reg) (s : State), s.runs c → rd ≠ 15 → rn ≠ 15 → rs ≠ 15 → rm ≠ 15 →
    let n := (s.readReg rn).toInt
    let p := (s.half rm x).toInt * (s.half rs y).toInt
    let p1 := (s.half rm false).toInt * (s.half rs x).toInt
    let p2 := (s.half rm true).toInt * (s.half rs (!x)).toInt
    let q := (s.readReg rm).toInt * (s.half rs y).toInt / 65536
    exec (.smlaxy c rd rn rs y x rm) s =
      .next (s.result rd (BitVec.ofInt 32 (p + n)) (psrSticky s.cpsr (outside32 (p + n)))) ∧
    exec (.smlawy c rd rn rs y rm) s =
      .next (s.result rd (BitVec.ofInt 32 (q + n)) (psrSticky s.cpsr (outside32 (q + n)))) ∧
    exec (.smlad c rd rn rs x rm) s =
      .next (s.result rd (BitVec.ofInt 32 (n + p1 + p2)) (psrSticky s.cpsr (outside32 (n + p1 + p2)))) ∧
    exec (.smlsd c rd rn rs x rm) s =
      .next (s.result rd (BitVec.ofInt 32 (n + p1 - p2)) (psrSticky s.cpsr (outside32 (n + p1 - p2)))) ∧
    exec (.smuad c rd rs x rm) s =
      .next (s.result rd (BitVec.ofInt 32 (p1 + p2)) (psrSticky s.cpsr (outside32 (p1 + p2))))

/-- R241, R242, R255, R256, R257, R259, R261, R262: the multiplies that write `Rd` and no flag. -/
def Obligations.PlainMultiplyResults : Prop :=
  ∀ (c : Cond) (x y r : Bool) (rd rn rs rm : Reg) (s : State), s.runs c → rd ≠ 15 → rn ≠ 15 → rs ≠ 15 → rm ≠ 15 →
    let p : BitVec 64 := (s.readReg rm).signExtend 64 * (s.readReg rs).signExtend 64
    let acc : BitVec 64 := s.readReg rn ++ 0#32
    let round : BitVec 64 := if r then 0x80000000 else 0
    exec (.smulxy c rd rs y x rm) s =
      .next (s.result rd ((s.half rm x).signExtend 32 * (s.half rs y).signExtend 32) s.cpsr) ∧
    exec (.smulwy c rd rs y rm) s =
      .next (s.result rd (((s.readReg rm).signExtend 48 * (s.half rs y).signExtend 48).extractLsb' 16 32) s.cpsr) ∧
    exec (.smusd c rd rs x rm) s =
      .next (s.result rd ((s.half rm false).signExtend 32 * (s.half rs x).signExtend 32
        - (s.half rm true).signExtend 32 * (s.half rs (!x)).signExtend 32) s.cpsr) ∧
    exec (.smmul c rd rs r rm) s = .next (s.result rd ((p + round).extractLsb' 32 32) s.cpsr) ∧
    exec (.smmla c rd rn rs r rm) s = .next (s.result rd ((acc + p + round).extractLsb' 32 32) s.cpsr) ∧
    exec (.smmls c rd rn rs r rm) s = .next (s.result rd ((acc - p + round).extractLsb' 32 32) s.cpsr)

/-- R244: MUL, MLA and the long forms with `Rm` as a destination: no restriction at ARMv6, UNPREDICTABLE before it. -/
def Obligations.OldMultiplyRestriction : Prop :=
  ∀ (c : Cond) (sf : Bool) (d e rs rm : Reg) (s : State), s.runs c → d ≠ 15 → e ≠ 15 → rs ≠ 15 → rm ≠ 15 →
    (s.isV6 = true → d = rm →
      (∃ t, exec (.mul c sf d rs rm) s = .next t) ∧ (∃ t, exec (.mla c sf d e rs rm) s = .next t)) ∧
    (s.isV6 = true → d ≠ e → d = rm ∨ e = rm →
      (∃ t, exec (.umull c sf d e rs rm) s = .next t) ∧ (∃ t, exec (.smull c sf d e rs rm) s = .next t) ∧
      (∃ t, exec (.umlal c sf d e rs rm) s = .next t) ∧ (∃ t, exec (.smlal c sf d e rs rm) s = .next t)) ∧
    (s.isV6 = false → d = rm →
      stopsAs (exec (.mul c sf d rs rm) s) .sameRegister ∧ stopsAs (exec (.mla c sf d e rs rm) s) .sameRegister) ∧
    (s.isV6 = false → d = rm ∨ e = rm →
      stopsAs (exec (.umull c sf d e rs rm) s) .sameRegister ∧ stopsAs (exec (.smull c sf d e rs rm) s) .sameRegister ∧
      stopsAs (exec (.umlal c sf d e rs rm) s) .sameRegister ∧ stopsAs (exec (.smlal c sf d e rs rm) s) .sameRegister)

/-! ### Parallel arithmetic -/

/-- R281, R282, R283, R284: the thirty-six, field by field: the result of each prefix, GE of the S and U forms, every other
flag unchanged; and R15 in any field is UNPREDICTABLE. -/
def Obligations.ParallelResults : Prop :=
  ∀ (k : LaneKind) (o : LaneOp) (c : Cond) (rn rd rm : Reg) (s : State), s.runs c →
    let r := parallelResult k o (s.readReg rn) (s.readReg rm)
    if rd = 15 ∨ rn = 15 ∨ rm = 15 then stopsAs (exec (parallelInstr k o c rn rd rm) s) .r15Operand
    else exec (parallelInstr k o c rn rd rm) s = .next (s.result rd r.1
      (if k = .s ∨ k = .u then psrGe s.cpsr r.2 else s.cpsr))

/-- R54, R295, R320, R321: SEL takes each byte as its GE bit says; USAD8 and USADA8 sum the four absolute differences. -/
def Obligations.SelectAndSumResults : Prop :=
  ∀ (c : Cond) (rd rn rs rm : Reg) (s : State), s.runs c → rd ≠ 15 → rn ≠ 15 → rs ≠ 15 → rm ≠ 15 →
    let pick (i : Nat) : Byte := (if s.cpsr.getLsbD (16 + i) then s.readReg rn else s.readReg rm).extractLsb' (8 * i) 8
    let gap (i : Nat) : Nat := (((s.readReg rm).extractLsb' (8 * i) 8).toNat - ((s.readReg rs).extractLsb' (8 * i) 8).toNat : Int).natAbs
    let sum : Word := BitVec.ofNat 32 (gap 0 + gap 1 + gap 2 + gap 3)
    exec (.sel c rn rd rm) s = .next (s.result rd (pick 3 ++ (pick 2 ++ (pick 1 ++ pick 0))) s.cpsr) ∧
    exec (.usad8 c rd rs rm) s = .next (s.result rd sum s.cpsr) ∧
    exec (.usada8 c rd rn rs rm) s = .next (s.result rd (s.readReg rn + sum) s.cpsr)

/-! ### Saturate, pack, reverse, extend -/

/-- R345 to R348: QADD, QDADD, QDSUB and QSUB: the encoding, the versions, the condition, R15, and the saturated result
with Q when the sum or the doubling saturates. -/
def Obligations.SaturatingResults : Prop :=
  ∀ (c : Cond) (rn rd rm : Reg) (s : State), s.pc.toNat + 4 < 2 ^ 32 →
    let word (op : BitVec 8) : Word := c.code ++ (op ++ (rn ++ (rd ++ (0x05#8 ++ rm))))
    let x := (s.readReg rm).toInt
    let y := (s.readReg rn).toInt
    let d := clamp (-2147483648) 2147483647 (2 * y)
    let w (e : Int) : Word := BitVec.ofInt 32 (clamp (-2147483648) 2147483647 e)
    let row (i : Instr) (op : BitVec 8) (e : Int) (q : Bool) : Prop :=
      encode i = word op ∧ (∀ a : Arch, i.existsIn a = a.isE) ∧
      if conditionPassed c s = false then exec i s = .next s.past
      else if rd = 15 ∨ rm = 15 ∨ rn = 15 then stopsAs (exec i s) .r15Operand
      else exec i s = .next (s.result rd (w e) (psrSticky s.cpsr q))
    row (.qadd c rn rd rm) 0x10 (x + y) (outside32 (x + y)) ∧
    row (.qsub c rn rd rm) 0x12 (x - y) (outside32 (x - y)) ∧
    row (.qdadd c rn rd rm) 0x14 (x + d) (outside32 (2 * y) || outside32 (x + d)) ∧
    row (.qdsub c rn rd rm) 0x16 (x - d) (outside32 (2 * y) || outside32 (x - d))

/-- R53, R341, R352, R353, R360, R361: SSAT, USAT and their halfword forms write the nearest value of the range and set Q
when it differs. -/
def Obligations.SaturateResults : Prop :=
  ∀ (c : Cond) (sat amount : BitVec 5) (sat4 : BitVec 4) (isAsr : Bool) (rd rm : Reg) (s : State), s.runs c →
    rd ≠ 15 → rm ≠ 15 →
    let x : Int := if isAsr then (s.readReg rm).toInt / 2 ^ (if amount = 0 then 32 else amount.toNat)
      else (s.readReg rm <<< amount.toNat).toInt
    let hi := (s.half rm true).toInt
    let lo := (s.half rm false).toInt
    let signed (n : Nat) (e : Int) : Int := clamp (-(2 ^ n)) (2 ^ n - 1) e
    let unsigned (n : Nat) (e : Int) : Int := clamp 0 (2 ^ n - 1) e
    exec (.ssat c sat rd amount isAsr rm) s = .next (s.result rd (BitVec.ofInt 32 (signed sat.toNat x))
      (psrSticky s.cpsr (signed sat.toNat x != x))) ∧
    exec (.usat c sat rd amount isAsr rm) s = .next (s.result rd (BitVec.ofInt 32 (unsigned sat.toNat x))
      (psrSticky s.cpsr (unsigned sat.toNat x != x))) ∧
    exec (.ssat16 c sat4 rd rm) s = .next (s.result rd
      (BitVec.ofInt 16 (signed sat4.toNat hi) ++ BitVec.ofInt 16 (signed sat4.toNat lo))
      (psrSticky s.cpsr (signed sat4.toNat hi != hi || signed sat4.toNat lo != lo))) ∧
    exec (.usat16 c sat4 rd rm) s = .next (s.result rd
      (BitVec.ofInt 16 (unsigned sat4.toNat hi) ++ BitVec.ofInt 16 (unsigned sat4.toNat lo))
      (psrSticky s.cpsr (unsigned sat4.toNat hi != hi || unsigned sat4.toNat lo != lo)))

/-- R342, R343, R344, R349, R350, R351, R354 to R359, R362 to R367: the pack, the byte-reverse and the twelve extend
instructions. -/
def Obligations.PackReverseExtendResults : Prop :=
  ∀ (c : Cond) (sh : BitVec 5) (rot : BitVec 2) (rn rd rm : Reg) (s : State), s.runs c → rd ≠ 15 → rm ≠ 15 →
    let x := s.readReg rm
    let b (i : Nat) : Byte := x.extractLsb' (8 * i) 8
    let y := x.rotateRight (8 * rot.toNat)
    let n := s.readReg rn
    let b0 : Byte := y.extractLsb' 0 8
    let b2 : Byte := y.extractLsb' 16 8
    let h : Half := y.extractLsb' 0 16
    exec (.rev c rd rm) s = .next (s.result rd (b 0 ++ (b 1 ++ (b 2 ++ b 3))) s.cpsr) ∧
    exec (.rev16 c rd rm) s = .next (s.result rd (b 2 ++ (b 3 ++ (b 0 ++ b 1))) s.cpsr) ∧
    exec (.revsh c rd rm) s = .next (s.result rd ((b 0 ++ b 1).signExtend 32) s.cpsr) ∧
    exec (.sxtb c rd rot rm) s = .next (s.result rd (b0.signExtend 32) s.cpsr) ∧
    exec (.sxtb16 c rd rot rm) s = .next (s.result rd (b2.signExtend 16 ++ b0.signExtend 16) s.cpsr) ∧
    exec (.sxth c rd rot rm) s = .next (s.result rd (h.signExtend 32) s.cpsr) ∧
    exec (.uxtb c rd rot rm) s = .next (s.result rd (b0.setWidth 32) s.cpsr) ∧
    exec (.uxtb16 c rd rot rm) s = .next (s.result rd (b2.setWidth 16 ++ b0.setWidth 16) s.cpsr) ∧
    exec (.uxth c rd rot rm) s = .next (s.result rd (h.setWidth 32) s.cpsr) ∧
    (rn ≠ 15 →
      exec (.pkhbt c rn rd sh rm) s = .next (s.result rd ((x <<< sh.toNat).extractLsb' 16 16 ++ s.half rn false) s.cpsr) ∧
      exec (.pkhtb c rn rd sh rm) s = .next (s.result rd
        (s.half rn true ++ BitVec.ofInt 16 (x.toInt / 2 ^ (if sh = 0 then 32 else sh.toNat))) s.cpsr) ∧
      exec (.sxtab c rn rd rot rm) s = .next (s.result rd (n + b0.signExtend 32) s.cpsr) ∧
      exec (.sxtab16 c rn rd rot rm) s = .next (s.result rd
        ((s.half rn true + b2.signExtend 16) ++ (s.half rn false + b0.signExtend 16)) s.cpsr) ∧
      exec (.sxtah c rn rd rot rm) s = .next (s.result rd (n + h.signExtend 32) s.cpsr) ∧
      exec (.uxtab c rn rd rot rm) s = .next (s.result rd (n + b0.setWidth 32) s.cpsr) ∧
      exec (.uxtab16 c rn rd rot rm) s = .next (s.result rd
        ((s.half rn true + b2.setWidth 16) ++ (s.half rn false + b0.setWidth 16)) s.cpsr) ∧
      exec (.uxtah c rn rd rot rm) s = .next (s.result rd (n + h.setWidth 32) s.cpsr))

/-! ### Branches -/

/-- R46, R47, R381, R382: B, BL and BLX (1): the target, the link and the T bit; a target outside the address space is
UNPREDICTABLE, for BLX (1) by the spec's own decision D2. -/
def Obligations.BranchResults : Prop :=
  ∀ (c : Cond) (h : Bool) (imm : BitVec 24) (s : State), conditionPassed c s = true →
    let reach : Int := s.pc.toNat + 8 + 4 * imm.toInt
    let target : Word := s.pc + 8 + imm.signExtend 32 * 4
    let linked := s.writeReg 14 (s.pc + 4)
    (0 ≤ reach → reach < 2 ^ 32 →
      exec (.b c imm) s = .next { s with pc := target } ∧ exec (.bl c imm) s = .next { linked with pc := target }) ∧
    (let far := reach + (if h then 2 else 0)
     (0 ≤ far → far < 2 ^ 32 →
       exec (.blx1 h imm) s =
         .next { linked with cpsr := psrThumb s.cpsr true, pc := target + (if h then 2 else 0) }) ∧
     (far < 0 ∨ 2 ^ 32 ≤ far → stopsAs (exec (.blx1 h imm) s) .branchRange)) ∧
    (reach < 0 ∨ 2 ^ 32 ≤ reach →
      stopsAs (exec (.b c imm) s) .branchRange ∧ stopsAs (exec (.bl c imm) s) .branchRange)

/-- R47, R383, R384, R385: BX, BLX (2), and BXJ with Jazelle disabled: bit 0 of the target becomes T, and bits 1:0 = 10 are
UNPREDICTABLE; with Jazelle enabled BXJ is refused. -/
def Obligations.ExchangeResults : Prop :=
  ∀ (c : Cond) (rm : Reg) (s : State), conditionPassed c s = true →
    let v := s.readReg rm
    let gone (u : State) : State := { u with cpsr := psrThumb s.cpsr (v.getLsbD 0), pc := v &&& 0xFFFFFFFE }
    (v.extractLsb' 0 2 ≠ 2 →
      exec (.bx c rm) s = .next (gone s) ∧
      (rm ≠ 15 → exec (.blx2 c rm) s = .next (gone (s.writeReg 14 (s.pc + 4)))) ∧
      (rm ≠ 15 → s.params.je = false → exec (.bxj c rm) s = .next (gone s))) ∧
    (v.extractLsb' 0 2 = 2 →
      stopsAs (exec (.bx c rm) s) .halfwordTarget ∧
      (rm ≠ 15 → stopsAs (exec (.blx2 c rm) s) .halfwordTarget) ∧
      (rm ≠ 15 → s.params.je = false → stopsAs (exec (.bxj c rm) s) .halfwordTarget)) ∧
    (rm ≠ 15 → s.params.je = true → exec (.bxj c rm) s = .refused .jazelleEnabled)

/-! ### Loads and stores -/

/-- R402, R403, R404, R405, R406, R407, R451, R530: the address and the write-back of the addressing modes 2 to 5, and where the
registers make modes 2, 3 and 5 UNPREDICTABLE: R15 as the index, and with write-back R15 or the index as the base; and
P = 0 with W = 1 in mode 3. -/
def Obligations.AddressingModes : Prop :=
  ∀ (s : State) (up : Bool) (rn rm : Reg) (amount : BitVec 5) (sh : ShiftType) (k12 : BitVec 12) (k8 : BitVec 8) (n : Nat),
    let base := s.readReg rn
    let sum (o : Word) : Word := if up then base + o else base - o
    let o := (shifterOperand s (.shiftImm amount sh rm)).1
    let bytes : Word := BitVec.ofNat 32 n
    (address2 s .offset up rn (.imm k12) = .ok ⟨sum (k12.setWidth 32), none⟩ ∧
      (rn ≠ 15 →
        address2 s .pre up rn (.imm k12) = .ok ⟨sum (k12.setWidth 32), some (sum (k12.setWidth 32))⟩ ∧
        address2 s .post up rn (.imm k12) = .ok ⟨base, some (sum (k12.setWidth 32))⟩ ∧
        address3 s .pre up rn (.imm k8) = .ok ⟨sum (k8.setWidth 32), some (sum (k8.setWidth 32))⟩ ∧
        address3 s .post up rn (.imm k8) = .ok ⟨base, some (sum (k8.setWidth 32))⟩) ∧
      address3 s .offset up rn (.imm k8) = .ok ⟨sum (k8.setWidth 32), none⟩) ∧
    (rm ≠ 15 →
      address2 s .offset up rn (.reg amount sh rm) = .ok ⟨sum o, none⟩ ∧
      address3 s .offset up rn (.reg rm) = .ok ⟨sum (s.readReg rm), none⟩ ∧
      (rn ≠ 15 → rn ≠ rm →
        address2 s .pre up rn (.reg amount sh rm) = .ok ⟨sum o, some (sum o)⟩ ∧
        address2 s .post up rn (.reg amount sh rm) = .ok ⟨base, some (sum o)⟩ ∧
        address3 s .pre up rn (.reg rm) = .ok ⟨sum (s.readReg rm), some (sum (s.readReg rm))⟩ ∧
        address3 s .post up rn (.reg rm) = .ok ⟨base, some (sum (s.readReg rm))⟩)) ∧
    (∀ ix : Index2, address2 s ix up rn (.reg amount sh 15) = unpredictable .r15Operand ∧
      (ix ≠ .offset → address2 s ix up 15 (.imm k12) = unpredictable .pcWriteback ∧
        (rm ≠ 15 → address2 s ix up 15 (.reg amount sh rm) = unpredictable .pcWriteback ∧
          address2 s ix up rm (.reg amount sh rm) = unpredictable .sameRegister))) ∧
    (∀ ix : Index3, ix ≠ .postW → address3 s ix up rn (.reg 15) = unpredictable .r15Operand ∧
      (ix ≠ .offset → address3 s ix up 15 (.imm k8) = unpredictable .pcWriteback ∧
        (rm ≠ 15 → address3 s ix up 15 (.reg rm) = unpredictable .pcWriteback ∧
          address3 s ix up rm (.reg rm) = unpredictable .sameRegister))) ∧
    (∀ off : Offset3, address3 s .postW up rn off = unpredictable .mode3Writeback) ∧
    address5 s (.pre up) 15 k8 = unpredictable .pcWriteback ∧ address5 s (.post up) 15 k8 = unpredictable .pcWriteback ∧
    mode4 .ia base n = (base, base + bytes) ∧ mode4 .ib base n = (base + 4, base + bytes) ∧
    mode4 .da base n = (base - bytes + 4, base - bytes) ∧ mode4 .db base n = (base - bytes, base - bytes) ∧
    address5 s (.offset up) rn k8 = .ok ⟨sum (k8.setWidth 32 * 4), none⟩ ∧
    address5 s .unindexed rn k8 = .ok ⟨base, none⟩ ∧
    (rn ≠ 15 →
      address5 s (.pre up) rn k8 = .ok ⟨sum (k8.setWidth 32 * 4), some (sum (k8.setWidth 32 * 4))⟩ ∧
      address5 s (.post up) rn k8 = .ok ⟨base, some (sum (k8.setWidth 32 * 4))⟩)

/-- R100, R101, R403, R410, R417: LDR and LDRT into a general register: the word at an aligned address, or unaligned with
U = 1; with U = A = 0 the word below, rotated. -/
def Obligations.WordLoadResults : Prop :=
  ∀ (c : Cond) (ix : Index2) (up : Bool) (rn rd : Reg) (off : Offset2) (s : State), s.runs c → rd ≠ 15 →
    ∀ acc, address2 s ix up rn off = .ok acc →
    let loaded (x : Word) : State := ((s.writeBack rn acc.writeback).writeReg rd x).past
    (∀ v, s.wordAt acc.address = some v → (low2 acc.address = 0 ∨ (s.alignA = false ∧ s.alignU = true)) →
      ((Index2.writes ix = true → rd ≠ rn) → exec (.ldr c ix up rn rd off) s = .next (loaded v)) ∧
      (ix = .post → rd ≠ rn → exec (.ldrt c up rn rd off) s = .next (loaded v))) ∧
    (∀ v, s.wordAt (acc.address &&& 0xFFFFFFFC) = some v → s.alignA = false → s.alignU = false →
      ((Index2.writes ix = true → rd ≠ rn) →
        exec (.ldr c ix up rn rd off) s = .next (loaded (v.rotateRight (8 * (acc.address.toNat % 4))))) ∧
      (ix = .post → rd ≠ rn →
        exec (.ldrt c up rn rd off) s = .next (loaded (v.rotateRight (8 * (acc.address.toNat % 4))))))

/-- R47, R100, R410: LDR of the pc from an aligned address: from ARMv5T it selects the state as BX does, before it bits 1:0
are ignored; from a misaligned address with A = 0 it is UNPREDICTABLE. -/
def Obligations.LoadPcResults : Prop :=
  ∀ (c : Cond) (ix : Index2) (up : Bool) (rn : Reg) (off : Offset2) (s : State), conditionPassed c s = true →
    ∀ acc, address2 s ix up rn off = .ok acc →
    let based := s.writeBack rn acc.writeback
    (low2 acc.address ≠ 0 → s.alignA = false → stopsAs (exec (.ldr c ix up rn 15 off) s) .misaligned) ∧
    (∀ v, s.wordAt acc.address = some v → low2 acc.address = 0 →
      (s.arch.atLeastV5 = true → v.extractLsb' 0 2 ≠ 2 →
        exec (.ldr c ix up rn 15 off) s =
          .next { based with cpsr := psrThumb s.cpsr (v.getLsbD 0), pc := v &&& 0xFFFFFFFE }) ∧
      (s.arch.atLeastV5 = true → v.extractLsb' 0 2 = 2 → stopsAs (exec (.ldr c ix up rn 15 off) s) .halfwordTarget) ∧
      (s.arch.atLeastV5 = false → exec (.ldr c ix up rn 15 off) s = .next { based with pc := v &&& 0xFFFFFFFC }))

/-- R100, R107, R411, R412, R414, R415, R416: the byte and halfword loads, extended as each says. -/
def Obligations.NarrowLoadResults : Prop :=
  ∀ (c : Cond) (up : Bool) (rn rd : Reg) (s : State), s.runs c → rd ≠ 15 →
    (∀ (ix : Index2) (off : Offset2) (acc : Access), address2 s ix up rn off = .ok acc →
      ∀ b, s.dataByte acc.address = some b →
      let loaded (x : Word) : State := ((s.writeBack rn acc.writeback).writeReg rd x).past
      ((Index2.writes ix = true → rd ≠ rn) → exec (.ldrb c ix up rn rd off) s = .next (loaded (b.setWidth 32))) ∧
      (ix = .post → rd ≠ rn → exec (.ldrbt c up rn rd off) s = .next (loaded (b.setWidth 32)))) ∧
    (∀ (ix : Index3) (off : Offset3) (acc : Access), address3 s ix up rn off = .ok acc →
      (Index3.writes ix = true → rd ≠ rn) →
      let loaded (x : Word) : State := ((s.writeBack rn acc.writeback).writeReg rd x).past
      (∀ b, s.dataByte acc.address = some b →
        exec (.ldrsb c ix up rn rd off) s = .next (loaded (b.signExtend 32))) ∧
      (∀ h, s.halfAt acc.address = some h →
        (acc.address.getLsbD 0 = false ∨ (s.alignA = false ∧ s.alignU = true)) →
        exec (.ldrh c ix up rn rd off) s = .next (loaded (h.setWidth 32)) ∧
        exec (.ldrsh c ix up rn rd off) s = .next (loaded (h.signExtend 32))))

/-- R100, R103, R104, R413, R414, R416, R422, R423, R481, R482: the misaligned accesses that are UNPREDICTABLE, memory or
none at the address: with U = A = 0 the halfword ones at an odd address and the exclusive ones, and with A = 0 the
doubleword ones that are not aligned to 8 bytes, or to 4 with U = 1. -/
def Obligations.MisalignedAccessStops : Prop :=
  ∀ (c : Cond) (up : Bool) (rn rd : Reg) (s : State), conditionPassed c s = true → s.alignA = false →
    (∀ (ix : Index3) (off : Offset3) (acc : Access), address3 s ix up rn off = .ok acc →
      let a := acc.address
      (s.alignU = false → rd ≠ 15 → (Index3.writes ix = true → rd ≠ rn) → a.getLsbD 0 = true →
        stopsAs (exec (.ldrh c ix up rn rd off) s) .misaligned ∧ stopsAs (exec (.ldrsh c ix up rn rd off) s) .misaligned ∧
        stopsAs (exec (.strh c ix up rn rd off) s) .misaligned) ∧
      (rd.getLsbD 0 = false → rd ≠ 14 → (Index3.writes ix = true → rn ≠ rd ∧ rn ≠ rd + 1) →
        a.toNat % (if s.alignU then 4 else 8) ≠ 0 →
        (offsetInPair rd off = false → stopsAs (exec (.ldrd c ix up rn rd off) s) .misaligned) ∧
        stopsAs (exec (.strd c ix up rn rd off) s) .misaligned)) ∧
    (∀ m : Reg, m ≠ 15 → rn ≠ 15 → rd ≠ 15 → s.alignU = false → low2 (s.readReg rn) ≠ 0 →
      stopsAs (exec (.ldrex c rn rd) s) .misaligned ∧
      (rd ≠ rn → rd ≠ m → stopsAs (exec (.strex c rn rd m) s) .misaligned))

/-- R104, R406, R413, R422: LDRD and STRD at an aligned address: the even register and the lower word, the odd one and the
word 4 above. -/
def Obligations.DoublewordResults : Prop :=
  ∀ (c : Cond) (ix : Index3) (up : Bool) (rn rd : Reg) (off : Offset3) (s : State), s.runs c →
    rd.getLsbD 0 = false → rd ≠ 14 → (Index3.writes ix = true → rn ≠ rd ∧ rn ≠ rd + 1) →
    ∀ acc, address3 s ix up rn off = .ok acc → low2 acc.address = 0 → (s.alignU = true ∨ acc.address.getLsbD 2 = false) →
    (∀ lo, s.wordAt acc.address = some lo → ∀ hi, s.wordAt (acc.address + 4) = some hi → offsetInPair rd off = false →
      exec (.ldrd c ix up rn rd off) s =
        .next (((s.writeReg rd lo).writeBack rn acc.writeback).writeReg (rd + 1) hi).past) ∧
    (s.mappedBytes acc.address 8 = true →
      exec (.strd c ix up rn rd off) s =
        .next (((s.storeWord acc.address (s.readReg rd)).storeWord (acc.address + 4) (s.readReg (rd + 1))).writeBack rn
          acc.writeback).past)

/-- R100, R102, R403, R408, R419, R420, R421, R423, R424: the single stores; with U = A = 0 a word store ignores bits 1:0 of
its address. -/
def Obligations.StoreResults : Prop :=
  ∀ (c : Cond) (up : Bool) (rn rd : Reg) (s : State), s.runs c →
    (∀ (ix : Index2) (off : Offset2) (acc : Access), address2 s ix up rn off = .ok acc →
      let done (u : State) : State := (u.writeBack rn acc.writeback).past
      let a : Word := if s.alignU then acc.address else acc.address &&& 0xFFFFFFFC
      (low2 acc.address = 0 ∨ s.alignA = false → s.mappedBytes a 4 = true →
        ((Index2.writes ix = true → rd ≠ rn) →
          exec (.str c ix up rn rd off) s = .next (done (s.storeWord a (s.storedReg s.mode rd)))) ∧
        (ix = .post → rd ≠ rn →
          exec (.strt c up rn rd off) s = .next (done (s.storeWord a (s.storedReg s.mode rd))))) ∧
      (rd ≠ 15 → s.mapped acc.address = true →
        ((Index2.writes ix = true → rd ≠ rn) →
          exec (.strb c ix up rn rd off) s = .next (done (s.store acc.address [(s.readReg rd).extractLsb' 0 8]))) ∧
        (ix = .post → rd ≠ rn →
          exec (.strbt c up rn rd off) s = .next (done (s.store acc.address [(s.readReg rd).extractLsb' 0 8]))))) ∧
    (∀ (ix : Index3) (off : Offset3) (acc : Access), address3 s ix up rn off = .ok acc → rd ≠ 15 →
      (Index3.writes ix = true → rd ≠ rn) →
      (acc.address.getLsbD 0 = false ∨ (s.alignA = false ∧ s.alignU = true)) → s.mappedBytes acc.address 2 = true →
      exec (.strh c ix up rn rd off) s = .next
        ((s.store acc.address (halfBytes s.bigEndianData (s.half rd false))).writeBack rn acc.writeback).past)

/-- R91, R92, R93, R95, R128: what a store of a word leaves: it reads back, its bytes lie in the current byte order and
count as written, and no other byte changes. -/
def Obligations.StoredWord : Prop :=
  ∀ (s : State) (a v : Word), s.mappedBytes a 4 = true →
    let t := s.storeWord a v
    t.wordAt a = some v ∧
    (∀ k < 4, t.byteAt (a + BitVec.ofNat 32 k) =
      some (v.extractLsb' (8 * (if s.bigEndianData then 3 - k else k)) 8)) ∧
    (∀ k < 4, (a + BitVec.ofNat 32 k).toNat ∈ t.written) ∧
    (∀ b : Word, (∀ k < 4, b ≠ a + BitVec.ofNat 32 k) → t.byteAt b = s.byteAt b)

/-- R111: PLD is a no-op on memory, whatever the address, mapped or not; R15 as its offset register is UNPREDICTABLE. -/
def Obligations.PldIsNoOp : Prop :=
  ∀ (up : Bool) (rn : Reg) (off : Offset2) (s : State), s.pc.toNat + 4 < 2 ^ 32 → offset2Reg off ≠ some 15 →
    exec (.pld up rn off) s = .next { s with pc := s.pc + 4 }

/-! ### Multiple transfers -/

/-- R43, R100, R451, R452, R453, R454, R630: LDM (1) and LDM (2): each register of the list takes the word of its rank, in
the current bank or the User mode one; the base, with write-back and not in the list; the pc. That LDM (1) goes on with
write-back and the base in the list, the base a free value, is the model's choice (log entry 6). -/
def Obligations.LoadMultipleResults : Prop :=
  ∀ (c : Cond) (am : Mode4) (wb : Bool) (rn : Reg) (list : BitVec 16) (s : State), s.runs c → rn ≠ 15 → list ≠ 0 →
    let n := (listRegs list).length
    let start := (mode4 am (s.readReg rn) (4 * n)).1
    let a : Word := start &&& 0xFFFFFFFC
    (low2 start = 0 ∨ (s.alignA = false ∧ s.alignU = false)) → a.toNat + 4 * n ≤ 2 ^ 32 → s.wordsAt a n = true →
    (list.getLsbD 15 = false →
      ∃ t, exec (.ldm1 c am wb rn list) s = .next t ∧
        (∀ r : Reg, list.getLsbD r.toNat = true → (wb = true → r ≠ rn) →
          s.wordAt (slotOf a list r) = some (t.readReg r)) ∧
        (wb = true → list.getLsbD rn.toNat = false → t.readReg rn = (mode4 am (s.readReg rn) (4 * n)).2) ∧
        t.pc = s.pc + 4 ∧ t.cpsr = s.cpsr ∧ t.mem = s.mem) ∧
    (∀ v, s.wordAt (slotOf a list 15) = some v → list.getLsbD 15 = true →
      (s.arch.atLeastV5 = true → v.extractLsb' 0 2 ≠ 2) →
      ∃ t, exec (.ldm1 c am wb rn list) s = .next t ∧
        (∀ r : Reg, r ≠ 15 → list.getLsbD r.toNat = true → (wb = true → r ≠ rn) →
          s.wordAt (slotOf a list r) = some (t.readReg r)) ∧
        (wb = true → list.getLsbD rn.toNat = false → t.readReg rn = (mode4 am (s.readReg rn) (4 * n)).2) ∧
        (if s.arch.atLeastV5 then t.pc = v &&& 0xFFFFFFFE ∧ t.cpsr = psrThumb s.cpsr (v.getLsbD 0)
         else t.pc = v &&& 0xFFFFFFFC ∧ t.cpsr = s.cpsr) ∧
        t.mem = s.mem) ∧
    (∀ low : BitVec 15, list = low.setWidth 16 → s.mode ≠ .usr → s.mode ≠ .sys →
      ∃ t, exec (.ldm2 c am rn low) s = .next t ∧
        (∀ k : Fin 15, list.getLsbD k.val = true →
          s.wordAt (slotOf a list (BitVec.ofNat 4 k.val)) = some (t.readPhys (.usr k))) ∧
        t.bankHazard = (if s.isV6 then s.bankHazard else .armed) ∧
        t.pc = s.pc + 4 ∧ t.cpsr = s.cpsr ∧ t.mem = s.mem)

/-- R48, R455, R458, R590: LDM (3) and RFE: the CPSR becomes the SPSR, or the second word; the pc the last word of the
list, or the first; registers and base are of the mode before the return. That LDM (3) goes on with write-back and the
base in the list, the base a free value, is the model's choice (log entry 6). -/
def Obligations.ReturnResults : Prop :=
  ∀ (c : Cond) (am : Mode4) (wb : Bool) (rn : Reg) (low : BitVec 15) (s : State), conditionPassed c s = true → rn ≠ 15 →
    (let list : BitVec 16 := 1#1 ++ low
     let n := (listRegs list).length
     let start := (mode4 am (s.readReg rn) (4 * n)).1
     let a : Word := start &&& 0xFFFFFFFC
     (low2 start = 0 ∨ (s.alignA = false ∧ s.alignU = false)) → a.toNat + 4 * n ≤ 2 ^ 32 → s.wordsAt a n = true →
     ∀ v, s.wordAt (slotOf a list 15) = some v → ∀ psr, s.spsr.get s.mode = some psr →
       s.returnsTo psr v →
       ∃ t, exec (.ldm3 c am wb rn low) s = .next t ∧ t.cpsr = psr ∧ t.pc = v ∧ t.spsr = s.spsr ∧ t.mem = s.mem ∧
         (∀ r : Reg, r ≠ 15 → list.getLsbD r.toNat = true → (wb = true → r ≠ rn) →
           s.wordAt (slotOf a list r) = some (t.readRegIn s.mode r)) ∧
         (wb = true → list.getLsbD rn.toNat = false →
           t.readRegIn s.mode rn = (mode4 am (s.readReg rn) (4 * n)).2)) ∧
    (let start := (mode4 am (s.readReg rn) 8).1
     let a : Word := start &&& 0xFFFFFFFC
     s.mode ≠ .usr → (low2 start = 0 ∨ (s.alignA = false ∧ s.alignU = false)) → a.toNat + 8 ≤ 2 ^ 32 →
     ∀ v, s.wordAt a = some v → ∀ psr, s.wordAt (a + 4) = some psr → s.returnsTo psr v →
       exec (.rfe am wb rn) s = .next { (s.writeBack rn (if wb then some (mode4 am (s.readReg rn) 8).2 else none)) with
         cpsr := psr, pc := v })

/-- R43, R100, R451, R452, R456, R457, R459, R630: STM (1), STM (2) and SRS: each word of the transfer and the base; R15
stores the IMPLEMENTATION DEFINED value of R419. With write-back and the base in the list but not lowest, the stored base
is a free value (log entry 7). -/
def Obligations.StoreMultipleResults : Prop :=
  ∀ (c : Cond) (am : Mode4) (wb : Bool) (rn : Reg) (list : BitVec 16) (s : State), s.pc.toNat + 4 < 2 ^ 32 →
    (conditionPassed c s = true → rn ≠ 15 → list ≠ 0 →
      let n := (listRegs list).length
      let start := (mode4 am (s.readReg rn) (4 * n)).1
      let a : Word := start &&& 0xFFFFFFFC
      (low2 start = 0 ∨ (s.alignA = false ∧ s.alignU = false)) → a.toNat + 4 * n ≤ 2 ^ 32 →
      s.mappedBytes a (4 * n) = true →
      (∃ t, exec (.stm1 c am wb rn list) s = .next t ∧
        (∀ r : Reg, list.getLsbD r.toNat = true → t.wordAt (slotOf a list r) =
          some (if wb = true ∧ r = rn ∧ listRank list rn ≠ 0 then s.free else s.storedReg s.mode r)) ∧
        t.readReg rn = (if wb then (mode4 am (s.readReg rn) (4 * n)).2 else s.readReg rn) ∧
        t.pc = s.pc + 4 ∧ t.cpsr = s.cpsr) ∧
      (s.mode ≠ .usr → s.mode ≠ .sys →
        ∃ t, exec (.stm2 c am rn list) s = .next t ∧
          (∀ r : Reg, list.getLsbD r.toNat = true → t.wordAt (slotOf a list r) = some (s.storedReg .usr r)) ∧
          t.regs = s.regs ∧ t.bankHazard = (if s.isV6 then s.bankHazard else .armed) ∧
          t.pc = s.pc + 4 ∧ t.cpsr = s.cpsr)) ∧
    (∀ (m : Mode) (psr : Word), s.spsr.get s.mode = some psr →
      let start := (mode4 am (s.readRegIn m 13) 8).1
      let a : Word := start &&& 0xFFFFFFFC
      (low2 start = 0 ∨ (s.alignA = false ∧ s.alignU = false)) → a.toNat + 8 ≤ 2 ^ 32 →
      s.mappedBytes a 8 = true →
      ∃ t, exec (.srs am wb m.code) s = .next t ∧ t.wordAt a = some (s.readReg 14) ∧ t.wordAt (a + 4) = some psr ∧
        t.readRegIn m 13 = (if wb then (mode4 am (s.readRegIn m 13) 8).2 else s.readRegIn m 13) ∧
        t.pc = s.pc + 4 ∧ t.cpsr = s.cpsr)

/-- R388, R461 (a): a push of registers with STMDB and write-back, then LDMIA with write-back from any state that kept the
memory, the base and the CPSR, restores every register of the list and the base. -/
def Obligations.StackRoundTrip : Prop :=
  ∀ (rn : Reg) (list : BitVec 16) (s : State), s.runs .al → rn ≠ 15 → list ≠ 0 → list.getLsbD 15 = false →
    list.getLsbD rn.toNat = false → low2 (s.readReg rn) = 0 →
    let n := (listRegs list).length
    4 * n ≤ (s.readReg rn).toNat → s.mappedBytes (s.readReg rn - BitVec.ofNat 32 (4 * n)) (4 * n) = true →
    ∃ t, exec (.stm1 .al .db true rn list) s = .next t ∧
      ∀ u : State, u.mem = t.mem → u.params = t.params → u.cpsr = t.cpsr → u.readReg rn = t.readReg rn → u.runs .al →
        ∃ v, exec (.ldm1 .al .ia true rn list) u = .next v ∧ v.readReg rn = s.readReg rn ∧
          ∀ r : Reg, list.getLsbD r.toNat = true → v.readReg r = s.readReg r

/-! ### Synchronization -/

/-- R100, R121, R122, R123, R125, R126, R481, R482: LDREX marks the address and loads the word; STREX stores and answers 0
when the marks hold, else it answers 1 and stores nothing; the local monitor is open after it. -/
def Obligations.ExclusiveResults : Prop :=
  ∀ (c : Cond) (rn rd rm : Reg) (s : State), s.runs c → rn ≠ 15 → rd ≠ 15 →
    let a := s.readReg rn
    let opened : State := { s with localMonitor := none }
    low2 a = 0 →
    (∀ v, s.wordAt a = some v →
      exec (.ldrex c rn rd) s = .next (({ s with
        localMonitor := some ⟨a, 4⟩
        globalMonitor := if s.isShared a then ⟨0, ⟨a, 4⟩⟩ :: s.globalMonitor.filter (fun g => g.pid != 0)
          else s.globalMonitor } : State).result rd v s.cpsr)) ∧
    (rm ≠ 15 → rd ≠ rn → rd ≠ rm → s.mappedBytes a 4 = true →
      (s.localMonitor = some ⟨a, 4⟩ → s.isShared a = false →
        exec (.strex c rn rd rm) s = .next ((opened.storeWord a (s.readReg rm)).result rd 0 s.cpsr)) ∧
      (s.localMonitor = some ⟨a, 4⟩ → s.isShared a = true → ⟨0, ⟨a, 4⟩⟩ ∈ s.globalMonitor →
        ∃ t, exec (.strex c rn rd rm) s = .next t ∧ t.wordAt a = some (s.readReg rm) ∧ t.readReg rd = 0 ∧
          t.localMonitor = none ∧ ∀ g ∈ t.globalMonitor, g ∈ s.globalMonitor ∧ g.pid ≠ 0) ∧
      (s.localMonitor = none ∨ (s.isShared a = true ∧ ∀ g ∈ s.globalMonitor, g.pid ≠ 0) →
        exec (.strex c rn rd rm) s = .next (opened.result rd 1 s.cpsr)))

/-- R485 (a), (c): a STREX right after an LDREX of the same word stores and answers 0; a second STREX then answers 1 and
leaves memory alone. -/
def Obligations.LdrexThenStrex : Prop :=
  ∀ (rn rd re rm : Reg) (s : State), s.pc.toNat + 12 < 2 ^ 32 → rn ≠ 15 → rd ≠ 15 → re ≠ 15 → rm ≠ 15 →
    rd ≠ rn → re ≠ rn → re ≠ rm → low2 (s.readReg rn) = 0 → ∀ v, s.wordAt (s.readReg rn) = some v →
    ∃ t, exec (.ldrex .al rn rd) s = .next t ∧ t.readReg rd = v ∧
      ∃ u, exec (.strex .al rn re rm) t = .next u ∧ u.readReg re = 0 ∧
        u.wordAt (s.readReg rn) = some (t.readReg rm) ∧
        ∃ w, exec (.strex .al rn re rm) u = .next w ∧ w.readReg re = 1 ∧ w.mem = u.mem

/-- R100, R101, R102, R483, R484: SWP and SWPB: the old word or byte goes to `Rd` and the register's to memory; with U = A = 0
a misaligned SWP loads rotated and stores at the word. -/
def Obligations.SwapResults : Prop :=
  ∀ (c : Cond) (rn rd rm : Reg) (s : State), s.runs c → rn ≠ 15 → rd ≠ 15 → rm ≠ 15 → rn ≠ rm →
    rn ≠ rd →
    let a := s.readReg rn
    let w : Word := a &&& 0xFFFFFFFC
    (∀ v, s.wordAt w = some v → (low2 a = 0 ∨ (s.alignA = false ∧ s.alignU = false)) →
      exec (.swp c rn rd rm) s =
        .next ((s.storeWord w (s.readReg rm)).result rd (v.rotateRight (8 * (a.toNat % 4))) s.cpsr)) ∧
    (∀ b, s.dataByte a = some b →
      exec (.swpb c rn rd rm) s =
        .next ((s.store a [(s.readReg rm).extractLsb' 0 8]).result rd (b.setWidth 32) s.cpsr))

/-! ### Status and system -/

/-- R501: MRS: the encoding, every version, the condition; it copies all 32 bits of the CPSR or of the current mode's SPSR;
there is none in User and System mode, and R15 is UNPREDICTABLE. -/
def Obligations.MrsResults : Prop :=
  ∀ (c : Cond) (r : Bool) (rd : Reg) (s : State), s.pc.toNat + 4 < 2 ^ 32 →
    encode (.mrs c r rd) = c.code ++ (0b00010#5 ++ (BitVec.ofBool r ++ (0b00#2 ++ (0xF#4 ++ (rd ++ 0#12))))) ∧
    (∀ a : Arch, (Instr.mrs c r rd).existsIn a = true) ∧
    if conditionPassed c s = false then exec (.mrs c r rd) s = .next s.past
    else if rd = 15 then stopsAs (exec (.mrs c r rd) s) .r15Operand
    else
      (r = false → exec (.mrs c r rd) s = .next (s.result rd s.cpsr s.cpsr)) ∧
      (r = true → s.mode = .usr ∨ s.mode = .sys → stopsAs (exec (.mrs c r rd) s) .noSpsr) ∧
      (r = true → s.mode ≠ .usr ∧ s.mode ≠ .sys →
        ∀ x, s.spsr.get s.mode = some x → exec (.mrs c r rd) s = .next (s.result rd x s.cpsr))

/-- R166, R502, R503: MSR, both operand forms: the bytes the field mask selects, limited to the bits the mode and the
register let it write; reserved bits in the operand, state bits and reserved modes are UNPREDICTABLE. -/
def Obligations.MsrResults : Prop :=
  ∀ (c : Cond) (mask rot : BitVec 4) (imm : BitVec 8) (rm : Reg) (s : State), s.runs c →
    let table := psrMasks s.arch
    let bytes : Word := BitVec.fill 8 (mask.getLsbD 3) ++ (BitVec.fill 8 (mask.getLsbD 2) ++
      (BitVec.fill 8 (mask.getLsbD 1) ++ BitVec.fill 8 (mask.getLsbD 0)))
    let bits := bytes &&& (if s.mode = .usr then table.user else table.user ||| table.priv)
    let saved := bytes &&& (table.user ||| table.priv ||| table.state)
    let claim (operand : Word) (i j : Instr) : Prop :=
      let new := (s.cpsr &&& ~~~ bits) ||| (operand &&& bits)
      if operand &&& table.unalloc ≠ 0 then
        stopsAs (exec i s) .reservedPsrBits ∧ stopsAs (exec j s) .reservedPsrBits
      else
        (if s.mode ≠ .usr ∧ operand &&& table.state ≠ 0 then stopsAs (exec i s) .stateBits
         else if (Mode.ofCode (psrMode new)).isSome then exec i s = .next { s with cpsr := new, pc := s.pc + 4 }
         else stopsAs (exec i s) .reservedMode) ∧
        (s.spsr.get s.mode = none → stopsAs (exec j s) .noSpsr) ∧
        (∀ old, s.spsr.get s.mode = some old →
          let kept := (old &&& ~~~ saved) ||| (operand &&& saved)
          if psrMode saved = 0 ∨ (Mode.ofCode (psrMode kept)).isSome = true then
            exec j s = .next { s with spsr := s.spsr.set s.mode kept, pc := s.pc + 4 }
          else stopsAs (exec j s) .reservedMode)
    claim ((imm.setWidth 32).rotateRight (2 * rot.toNat)) (.msrImm c false mask rot imm) (.msrImm c true mask rot imm) ∧
    (rm ≠ 15 → claim (s.readReg rm) (.msrReg c false mask rm) (.msrReg c true mask rm))

/-- R55, R505, R506: CPS changes the bits of A, I and F it names and the mode, and has no effect in User mode; SETEND changes
E alone. -/
def Obligations.ChangeStateResults : Prop :=
  ∀ (imod : BitVec 2) (mmod a ib f e : Bool) (mode : BitVec 5) (s : State), s.pc.toNat + 4 < 2 ^ 32 →
    let x := s.cpsr
    let change := 2 ≤ imod.toNat
    let some : Bool := a || ib || f
    let bit (named : Bool) (k : Nat) : BitVec 1 :=
      BitVec.ofBool (if change ∧ named = true then imod.getLsbD 0 else x.getLsbD k)
    let new : Word := x.extractLsb' 9 23 ++ (bit a 8 ++ (bit ib 7 ++ (bit f 6 ++ (x.extractLsb' 5 1 ++
      (if mmod then mode else x.extractLsb' 0 5)))))
    let meaning : Bool := (if change then some else imod = 0 && mmod && !some) && (mmod || mode = 0)
    (meaning = false → stopsAs (exec (.cps imod mmod a ib f mode) s) .cpsFields) ∧
    (meaning = true →
      (s.mode = .usr → exec (.cps imod mmod a ib f mode) s = .next { s with pc := s.pc + 4 }) ∧
      (s.mode ≠ .usr → (mmod = true → (Mode.ofCode mode).isSome = true) →
        exec (.cps imod mmod a ib f mode) s = .next { s with cpsr := new, pc := s.pc + 4 }) ∧
      (s.mode ≠ .usr → mmod = true → (Mode.ofCode mode).isSome = false →
        stopsAs (exec (.cps imod mmod a ib f mode) s) .reservedMode)) ∧
    (if e && s.params.cp15B then exec (.setend e) s = .refused .reservedByteOrder
     else exec (.setend e) s = .next { s with
       cpsr := x.extractLsb' 10 22 ++ (BitVec.ofBool e ++ x.extractLsb' 0 9), pc := s.pc + 4 })

/-! ### Coprocessors -/

/-- R530 to R541: the coprocessor instructions of a present coprocessor that accepts the word in the current mode: each gives the coprocessor's
new state and moves the registers or words its rule says; the "2" forms do the same, unconditionally. What the coprocessor
computes is IMPLEMENTATION DEFINED, a constant of Config. -/
def Obligations.CoprocessorResults : Prop :=
  ∀ (two : Bool) (c : Cond) (cp op1 : BitVec 4) (op3 op2 : BitVec 3) (crn crd crm rn rd : Reg) (am : Mode5) (long : Bool)
    (off : BitVec 8) (s : State), s.pc.toNat + 4 < 2 ^ 32 →
    (two = false → conditionPassed c s = true) → ∀ u, s.coproc[cp.toFin] = .present u →
    let left (t : State) (v : CoprocUnit) : State := t.setCoproc cp v
    (∀ i, i = (if two then .cdp2 op1 crn crd cp op2 crm else .cdp c op1 crn crd cp op2 crm) →
      ∀ n, u.words (psrMode s.cpsr) (encode i) = some n →
      exec i s = .next (left s (Config.coprocCdp cp.toNat u (encode i))).past) ∧
    (∀ i, i = (if two then .mcr2 op3 crn rd cp op2 crm else .mcr c op3 crn rd cp op2 crm) →
      ∀ n, u.words (psrMode s.cpsr) (encode i) = some n → rd ≠ 15 →
      exec i s = .next (left s (Config.coprocMcr cp.toNat u (encode i) (s.readReg rd))).past) ∧
    (∀ i, i = (if two then .mcrr2 rn rd cp op1 crm else .mcrr c rn rd cp op1 crm) →
      ∀ n, u.words (psrMode s.cpsr) (encode i) = some n → rd ≠ 15 → rn ≠ 15 → rn ≠ rd →
      exec i s = .next (left s (Config.coprocMcrr cp.toNat u (encode i) (s.readReg rd) (s.readReg rn))).past) ∧
    (∀ i, i = (if two then .mrc2 op3 crn rd cp op2 crm else .mrc c op3 crn rd cp op2 crm) →
      ∀ n, u.words (psrMode s.cpsr) (encode i) = some n →
      let r := Config.coprocMrc cp.toNat u (encode i)
      exec i s = .next (if rd = 15 then { left s r.2 with
          cpsr := psrFlags s.cpsr (r.1.getLsbD 31) (r.1.getLsbD 30) (r.1.getLsbD 29) (r.1.getLsbD 28), pc := s.pc + 4 }
        else (left s r.2).result rd r.1 s.cpsr)) ∧
    (∀ i, i = (if two then .mrrc2 rn rd cp op1 crm else .mrrc c rn rd cp op1 crm) →
      ∀ n, u.words (psrMode s.cpsr) (encode i) = some n → rd ≠ 15 → rn ≠ 15 → rn ≠ rd →
      let r := Config.coprocMrrc cp.toNat u (encode i)
      exec i s = .next (((left s r.2.2).writeReg rd r.1).writeReg rn r.2.1).past) ∧
    (∀ acc, address5 s am rn off = .ok acc → (low2 acc.address = 0 ∨ (s.alignA = false ∧ s.alignU = false)) →
      let a : Word := acc.address &&& 0xFFFFFFFC
      (∀ i, i = (if two then .ldc2 am long rn crd cp off else .ldc c am long rn crd cp off) →
        ∀ n, u.words (psrMode s.cpsr) (encode i) = some n → s.wordsAt a n = true →
        exec i s = .next ((left s (Config.coprocLdc cp.toNat u (encode i)
          ((List.range n).map (fun k => (s.wordAt (a + BitVec.ofNat 32 (4 * k))).getD 0)))).writeBack rn acc.writeback).past) ∧
      (∀ i, i = (if two then .stc2 am long rn crd cp off else .stc c am long rn crd cp off) →
        ∀ n, u.words (psrMode s.cpsr) (encode i) = some n → s.mappedBytes a (4 * n) = true →
        exec i s = .next ((left (s.storeWords a ((List.range n).map (Config.coprocStcWord cp.toNat u (encode i))))
          (Config.coprocStcState cp.toNat u (encode i))).writeBack rn acc.writeback).past))

/-! ### Where an instruction stops -/

/-- R162, R208, R240, R281, R295, R320, R321, R340, R383, R385, R411 to R423, R452, R481 to R484, R501, R502, R537, R538,
R540: R15 in a field where the rule of the instruction makes it UNPREDICTABLE stops it, when its condition passes. -/
def Obligations.PcOperandStops : Prop :=
  ∀ (i : Instr) (s : State), pcForbidden i = true → conditionPassed (instrCond i) s = true →
    stopsAs (exec i s) .r15Operand

/-- R29, R454, R455, R457, R458, R459, R597: what User and System mode may not do: the forms that need an SPSR are
UNPREDICTABLE in both, and RFE in User mode. -/
def Obligations.UserModeStops : Prop :=
  ∀ (c : Cond) (am : Mode4) (wb : Bool) (rn : Reg) (low : BitVec 15) (list : BitVec 16) (mode : BitVec 5) (s : State),
    conditionPassed c s = true → rn ≠ 15 → s.mode = .usr ∨ s.mode = .sys →
    (low ≠ 0 → stopsAs (exec (.ldm2 c am rn low) s) .noSpsr) ∧ stopsAs (exec (.ldm3 c am wb rn low) s) .noSpsr ∧
    (list ≠ 0 → stopsAs (exec (.stm2 c am rn list) s) .noSpsr) ∧ stopsAs (exec (.srs am wb mode) s) .noSpsr ∧
    (s.mode = .usr → stopsAs (exec (.rfe am wb rn) s) .userMode)

/-- R630: before ARMv6, the instruction right after an LDM (2) or STM (2) stops the machine when its condition passes and
it uses R13 or R14, or R8 to R12 in FIQ mode. -/
def Obligations.HazardFaults : Prop :=
  ∀ (s : State) (i : Instr) (r : Reg), s.supported → s.noInterrupt → s.inArm → s.bankHazard = .armed →
    fetch s = .decoded (.instr i) → conditionPassed (instrCond i) s = true → r ∈ instrRegs i →
    (13 ≤ r.toNat ∧ r.toNat ≤ 14 ∨ s.mode = .fiq ∧ 8 ≤ r.toNat ∧ r.toNat ≤ 12) →
    step s = .fault (.unpredictable .bankedAfterUserTransfer)

end Statements
end

