-- ==== Sys2Proof/Laws/Decode.lean ====
section
/-! SUPPORT. Laws/Decode.lean: the codes of the small types and the cutting and joining of a word are inverse to each
other. -/

namespace Sys2Proof

theorem Cond.ofCode_code (c : Cond) : Cond.ofCode c.code = some c := by cases c <;> rfl

theorem Cond.code_of_ofCode {x : BitVec 4} {c : Cond} (h : Cond.ofCode x = some c) : c.code = x := by
  revert x c
  decide +revert

theorem Cond.code_ne_none (c : Cond) : c.code ≠ 15 := by cases c <;> decide

theorem ShiftType.ofBits_bits (t : ShiftType) : ShiftType.ofBits t.b6 t.b5 = t := by cases t <;> rfl

theorem ShiftType.b6_ofBits (a b : Bool) : (ShiftType.ofBits a b).b6 = a := by cases a <;> cases b <;> rfl

theorem ShiftType.b5_ofBits (a b : Bool) : (ShiftType.ofBits a b).b5 = b := by cases a <;> cases b <;> rfl

theorem Index3.ofBits_bits (ix : Index3) : Index3.ofBits ix.p ix.w = ix := by cases ix <;> rfl

theorem Mode4.ofBits_bits (am : Mode4) : Mode4.ofBits am.p am.u = am := by cases am <;> rfl

theorem Mode5.ofBits_bits (am : Mode5) : Mode5.ofBits am.p am.u am.w = some am := by
  cases am with
  | unindexed => rfl
  | offset up => cases up <;> rfl
  | pre up => cases up <;> rfl
  | post up => cases up <;> rfl

/-- A bit of a nibble made of four bits. -/
theorem getLsbD_nib (a b c d : Bool) (k : Nat) :
    (nib a b c d).getLsbD k = ((k == 0 && d) || (k == 1 && c) || (k == 2 && b) || (k == 3 && a)) := by
  rcases k with _ | _ | _ | _ | k <;> cases a <;> cases b <;> cases c <;> cases d <;> simp [nib]

/-- A word joined from fields has those fields. -/
theorem splitWord_joinWord (f : Fields) : splitWord (joinWord f) = f := by
  cases f with
  | mk cond b27 b26 b25 b24 b23 b22 b21 b20 rn rd rs b7 b6 b5 b4 rm =>
    simp only [splitWord, joinWord, Fields.mk.injEq]
    refine ⟨?_, ?_, ?_, ?_, ?_, ?_, ?_, ?_, ?_, ?_, ?_, ?_, ?_, ?_, ?_, ?_, ?_⟩ <;>
      first
      | (simp only [BitVec.getLsbD_append, getLsbD_nib]; simp)
      | (apply BitVec.eq_of_getLsbD_eq
         intro i hi
         simp only [nibble, BitVec.getLsbD_append, BitVec.getLsbD_extractLsb', getLsbD_nib]
         interval_cases i <;> simp)

/-- The fields of a word join to the word. -/
theorem joinWord_splitWord (w : Word) : joinWord (splitWord w) = w := by
  apply BitVec.eq_of_getLsbD_eq
  intro i hi
  simp only [joinWord, splitWord, nibble, BitVec.getLsbD_append, getLsbD_nib, BitVec.getLsbD_extractLsb']
  interval_cases i <;> simp

/-- Decoding an encoded instruction works on its fields. -/
theorem decode_encode (a : Arch) (i : Instr) : decode a (encode i) = decodeFields a (encodeFields i) := by
  simp only [decode, encode, splitWord_joinWord]

/-- A word is the encoding of an instruction exactly when their fields agree. -/
theorem encode_eq_iff (i : Instr) (w : Word) : encode i = w ↔ encodeFields i = splitWord w := by
  constructor
  · rintro rfl
    simp only [encode, splitWord_joinWord]
  · intro h
    simp only [encode, h, joinWord_splitWord]

end Sys2Proof
end

