-- ==== Sys2Proof/Laws/Memory.lean ====
section
/-! SUPPORT. Laws/Memory.lean: reading after writing, and the canonical form that every memory operation keeps. -/

namespace Sys2Proof.Machine

theorem Memory.write_eq_insert (m : List Host.Cell) (a : Nat) (v : Byte) : Memory.write m a v = Memory.insert m a v := by
  simp [Memory.write, unlistedByte]

theorem Memory.read_insert (m : List Host.Cell) (a b : Nat) (v : Byte) :
    Memory.read (Memory.insert m a v) b = if a = b then some v else Memory.read m b := by
  induction m with
  | nil => rfl
  | cons c rest ih =>
    obtain ⟨k, x⟩ := c
    simp only [Memory.insert]
    split
    · simp [Memory.read]
    · split
      · subst a; by_cases h : k = b <;> simp [Memory.read, h]
      · simp only [Memory.read, ih]
        split <;> split <;> simp_all

/-- A read after a write: the byte written, and every other address as before. -/
theorem Memory.read_write (m : List Host.Cell) (a b : Nat) (v : Byte) :
    Memory.read (Memory.write m a v) b = if a = b then some v else Memory.read m b := by
  rw [Memory.write_eq_insert, Memory.read_insert]

theorem Memory.wf_cons (k : Nat) (b : Byte) (rest : List Host.Cell) :
    Memory.wf ((k, b) :: rest) = true ↔ Memory.wf rest = true ∧ k < 2 ^ 32 ∧ ∀ c ∈ rest, k < c.1 := by
  induction rest generalizing k b with
  | nil => simp [Memory.wf, unlistedByte]
  | cons c rest ih =>
    obtain ⟨k', b'⟩ := c
    have h := ih k' b'
    simp only [Memory.wf, Bool.and_eq_true, decide_eq_true_eq, List.mem_cons, forall_eq_or_imp]
    constructor
    · rintro ⟨⟨h1, -⟩, h2⟩
      obtain ⟨-, h3, h4⟩ := h.mp h2
      exact ⟨h2, by omega, h1, fun c hc => lt_trans h1 (h4 c hc)⟩
    · rintro ⟨h2, -, h1, -⟩
      exact ⟨⟨h1, by simp [unlistedByte]⟩, h2⟩

theorem Memory.mem_insert (m : List Host.Cell) (a : Nat) (v : Byte) (c : Host.Cell)
    (h : c ∈ Memory.insert m a v) : c = (a, v) ∨ c ∈ m := by
  induction m with
  | nil => simpa [Memory.insert] using h
  | cons d rest ih =>
    obtain ⟨k, x⟩ := d
    simp only [Memory.insert] at h
    split at h
    · simpa using h
    · split at h
      · simp only [List.mem_cons] at h ⊢; tauto
      · simp only [List.mem_cons] at h ⊢; tauto

theorem Memory.wf_insert (m : List Host.Cell) (a : Nat) (v : Byte) (hm : Memory.wf m = true) (ha : a < 2 ^ 32) :
    Memory.wf (Memory.insert m a v) = true := by
  induction m with
  | nil => simpa [Memory.insert, Memory.wf, unlistedByte] using ha
  | cons c rest ih =>
    obtain ⟨k, x⟩ := c
    obtain ⟨h1, h2, h3⟩ := (Memory.wf_cons k x rest).mp hm
    simp only [Memory.insert]
    split
    · rename_i hlt
      rw [Memory.wf_cons]
      refine ⟨hm, ha, fun c hc => ?_⟩
      rcases List.mem_cons.mp hc with rfl | hc
      · exact hlt
      · exact lt_trans hlt (h3 c hc)
    · split
      · subst a
        rw [Memory.wf_cons]
        exact ⟨h1, ha, h3⟩
      · rw [Memory.wf_cons]
        refine ⟨ih h1, h2, fun c hc => ?_⟩
        rcases Memory.mem_insert rest a v c hc with rfl | hc
        · show k < a; omega
        · exact h3 c hc

/-- Every write keeps the canonical form. -/
theorem Memory.wf_write (m : List Host.Cell) (a : Nat) (v : Byte) (hm : Memory.wf m = true) (ha : a < 2 ^ 32) :
    Memory.wf (Memory.write m a v) = true := by
  rw [Memory.write_eq_insert]; exact Memory.wf_insert m a v hm ha

theorem AddrSet.mem_insert (l : List Nat) (a b : Nat) : b ∈ AddrSet.insert l a ↔ b = a ∨ b ∈ l := by
  induction l with
  | nil => simp [AddrSet.insert]
  | cons k rest ih =>
    simp only [AddrSet.insert]
    split
    · simp
    · split
      · subst a; simp
      · simp only [List.mem_cons, ih]; tauto

theorem AddrSet.wf_cons (k : Nat) (rest : List Nat) :
    AddrSet.wf (k :: rest) = true ↔ AddrSet.wf rest = true ∧ k < 2 ^ 32 ∧ ∀ c ∈ rest, k < c := by
  induction rest generalizing k with
  | nil => simp [AddrSet.wf]
  | cons k' rest ih =>
    have h := ih k'
    simp only [AddrSet.wf, Bool.and_eq_true, decide_eq_true_eq, List.mem_cons, forall_eq_or_imp]
    constructor
    · rintro ⟨h1, h2⟩
      obtain ⟨-, h3, h4⟩ := h.mp h2
      exact ⟨h2, by omega, h1, fun c hc => lt_trans h1 (h4 c hc)⟩
    · rintro ⟨h2, -, h1, -⟩
      exact ⟨h1, h2⟩

/-- The set of written addresses keeps its canonical form. -/
theorem AddrSet.wf_insert (l : List Nat) (a : Nat) (hl : AddrSet.wf l = true) (ha : a < 2 ^ 32) :
    AddrSet.wf (AddrSet.insert l a) = true := by
  induction l with
  | nil => simpa [AddrSet.insert, AddrSet.wf] using ha
  | cons k rest ih =>
    obtain ⟨h1, h2, h3⟩ := (AddrSet.wf_cons k rest).mp hl
    simp only [AddrSet.insert]
    split
    · rename_i hlt
      rw [AddrSet.wf_cons]
      refine ⟨hl, ha, fun c hc => ?_⟩
      rcases List.mem_cons.mp hc with rfl | hc
      · exact hlt
      · exact lt_trans hlt (h3 c hc)
    · split
      · exact hl
      · rw [AddrSet.wf_cons]
        refine ⟨ih h1, h2, fun c hc => ?_⟩
        rcases (AddrSet.mem_insert rest a c).mp hc with rfl | hc
        · omega
        · exact h3 c hc

/-- An address with a byte in canonical memory is inside the address space. -/
theorem Memory.read_lt (m : List Host.Cell) (a : Nat) (hm : Memory.wf m = true) (h : (Memory.read m a).isSome = true) :
    a < 2 ^ 32 := by
  induction m with
  | nil => simp [Memory.read, unlistedByte] at h
  | cons c rest ih =>
    obtain ⟨k, x⟩ := c
    obtain ⟨h1, h2, -⟩ := (Memory.wf_cons k x rest).mp hm
    simp only [Memory.read] at h
    split at h
    · omega
    · exact ih h1 h

end Sys2Proof.Machine
end

