-- ==== Sys2Proof/Laws/State.lean ====
section
/-! SUPPORT. Laws/State.lean: what each update of the state leaves alone, one lemma per field. -/

namespace Sys2Proof.Machine

variable (s : State)

@[simp] theorem State.setCpsr_cpsr (x : Word) : (s.setCpsr x).cpsr = x := rfl
@[simp] theorem State.setCpsr_regs (x : Word) : (s.setCpsr x).regs = s.regs := rfl
@[simp] theorem State.setCpsr_pc (x : Word) : (s.setCpsr x).pc = s.pc := rfl
@[simp] theorem State.setCpsr_spsr (x : Word) : (s.setCpsr x).spsr = s.spsr := rfl
@[simp] theorem State.setCpsr_mem (x : Word) : (s.setCpsr x).mem = s.mem := rfl
@[simp] theorem State.setCpsr_written (x : Word) : (s.setCpsr x).written = s.written := rfl
@[simp] theorem State.setCpsr_localMonitor (x : Word) : (s.setCpsr x).localMonitor = s.localMonitor := rfl
@[simp] theorem State.setCpsr_globalMonitor (x : Word) : (s.setCpsr x).globalMonitor = s.globalMonitor := rfl
@[simp] theorem State.setCpsr_coproc (x : Word) : (s.setCpsr x).coproc = s.coproc := rfl
@[simp] theorem State.setCpsr_irqLine (x : Word) : (s.setCpsr x).irqLine = s.irqLine := rfl
@[simp] theorem State.setCpsr_fiqLine (x : Word) : (s.setCpsr x).fiqLine = s.fiqLine := rfl
@[simp] theorem State.setCpsr_abortLine (x : Word) : (s.setCpsr x).abortLine = s.abortLine := rfl
@[simp] theorem State.setCpsr_bankHazard (x : Word) : (s.setCpsr x).bankHazard = s.bankHazard := rfl
@[simp] theorem State.setCpsr_freeCount (x : Word) : (s.setCpsr x).freeCount = s.freeCount := rfl
@[simp] theorem State.setCpsr_params (x : Word) : (s.setCpsr x).params = s.params := rfl

@[simp] theorem State.setCpsrBit_cpsr (k : Nat) (b : Bool) : (s.setCpsrBit k b).cpsr = withBit s.cpsr k b := rfl
@[simp] theorem State.setCpsrBit_regs (k : Nat) (b : Bool) : (s.setCpsrBit k b).regs = s.regs := rfl
@[simp] theorem State.setCpsrBit_pc (k : Nat) (b : Bool) : (s.setCpsrBit k b).pc = s.pc := rfl
@[simp] theorem State.setCpsrBit_spsr (k : Nat) (b : Bool) : (s.setCpsrBit k b).spsr = s.spsr := rfl
@[simp] theorem State.setCpsrBit_mem (k : Nat) (b : Bool) : (s.setCpsrBit k b).mem = s.mem := rfl
@[simp] theorem State.setCpsrBit_written (k : Nat) (b : Bool) : (s.setCpsrBit k b).written = s.written := rfl
@[simp] theorem State.setCpsrBit_localMonitor (k : Nat) (b : Bool) : (s.setCpsrBit k b).localMonitor = s.localMonitor := rfl
@[simp] theorem State.setCpsrBit_globalMonitor (k : Nat) (b : Bool) : (s.setCpsrBit k b).globalMonitor = s.globalMonitor := rfl
@[simp] theorem State.setCpsrBit_coproc (k : Nat) (b : Bool) : (s.setCpsrBit k b).coproc = s.coproc := rfl
@[simp] theorem State.setCpsrBit_irqLine (k : Nat) (b : Bool) : (s.setCpsrBit k b).irqLine = s.irqLine := rfl
@[simp] theorem State.setCpsrBit_fiqLine (k : Nat) (b : Bool) : (s.setCpsrBit k b).fiqLine = s.fiqLine := rfl
@[simp] theorem State.setCpsrBit_abortLine (k : Nat) (b : Bool) : (s.setCpsrBit k b).abortLine = s.abortLine := rfl
@[simp] theorem State.setCpsrBit_bankHazard (k : Nat) (b : Bool) : (s.setCpsrBit k b).bankHazard = s.bankHazard := rfl
@[simp] theorem State.setCpsrBit_freeCount (k : Nat) (b : Bool) : (s.setCpsrBit k b).freeCount = s.freeCount := rfl
@[simp] theorem State.setCpsrBit_params (k : Nat) (b : Bool) : (s.setCpsrBit k b).params = s.params := rfl

@[simp] theorem State.setNZ_cpsr (n z : Bool) : (s.setNZ n z).cpsr = withBit (withBit s.cpsr 31 n) 30 z := rfl
@[simp] theorem State.setNZ_regs (n z : Bool) : (s.setNZ n z).regs = s.regs := rfl
@[simp] theorem State.setNZ_pc (n z : Bool) : (s.setNZ n z).pc = s.pc := rfl
@[simp] theorem State.setNZ_spsr (n z : Bool) : (s.setNZ n z).spsr = s.spsr := rfl
@[simp] theorem State.setNZ_mem (n z : Bool) : (s.setNZ n z).mem = s.mem := rfl
@[simp] theorem State.setNZ_written (n z : Bool) : (s.setNZ n z).written = s.written := rfl
@[simp] theorem State.setNZ_localMonitor (n z : Bool) : (s.setNZ n z).localMonitor = s.localMonitor := rfl
@[simp] theorem State.setNZ_globalMonitor (n z : Bool) : (s.setNZ n z).globalMonitor = s.globalMonitor := rfl
@[simp] theorem State.setNZ_coproc (n z : Bool) : (s.setNZ n z).coproc = s.coproc := rfl
@[simp] theorem State.setNZ_irqLine (n z : Bool) : (s.setNZ n z).irqLine = s.irqLine := rfl
@[simp] theorem State.setNZ_fiqLine (n z : Bool) : (s.setNZ n z).fiqLine = s.fiqLine := rfl
@[simp] theorem State.setNZ_abortLine (n z : Bool) : (s.setNZ n z).abortLine = s.abortLine := rfl
@[simp] theorem State.setNZ_bankHazard (n z : Bool) : (s.setNZ n z).bankHazard = s.bankHazard := rfl
@[simp] theorem State.setNZ_freeCount (n z : Bool) : (s.setNZ n z).freeCount = s.freeCount := rfl
@[simp] theorem State.setNZ_params (n z : Bool) : (s.setNZ n z).params = s.params := rfl

@[simp] theorem State.setNZCV_cpsr (n z c v : Bool) : (s.setNZCV n z c v).cpsr = withBit (withBit (withBit (withBit s.cpsr 31 n) 30 z) 29 c) 28 v := rfl
@[simp] theorem State.setNZCV_regs (n z c v : Bool) : (s.setNZCV n z c v).regs = s.regs := rfl
@[simp] theorem State.setNZCV_pc (n z c v : Bool) : (s.setNZCV n z c v).pc = s.pc := rfl
@[simp] theorem State.setNZCV_spsr (n z c v : Bool) : (s.setNZCV n z c v).spsr = s.spsr := rfl
@[simp] theorem State.setNZCV_mem (n z c v : Bool) : (s.setNZCV n z c v).mem = s.mem := rfl
@[simp] theorem State.setNZCV_written (n z c v : Bool) : (s.setNZCV n z c v).written = s.written := rfl
@[simp] theorem State.setNZCV_localMonitor (n z c v : Bool) : (s.setNZCV n z c v).localMonitor = s.localMonitor := rfl
@[simp] theorem State.setNZCV_globalMonitor (n z c v : Bool) : (s.setNZCV n z c v).globalMonitor = s.globalMonitor := rfl
@[simp] theorem State.setNZCV_coproc (n z c v : Bool) : (s.setNZCV n z c v).coproc = s.coproc := rfl
@[simp] theorem State.setNZCV_irqLine (n z c v : Bool) : (s.setNZCV n z c v).irqLine = s.irqLine := rfl
@[simp] theorem State.setNZCV_fiqLine (n z c v : Bool) : (s.setNZCV n z c v).fiqLine = s.fiqLine := rfl
@[simp] theorem State.setNZCV_abortLine (n z c v : Bool) : (s.setNZCV n z c v).abortLine = s.abortLine := rfl
@[simp] theorem State.setNZCV_bankHazard (n z c v : Bool) : (s.setNZCV n z c v).bankHazard = s.bankHazard := rfl
@[simp] theorem State.setNZCV_freeCount (n z c v : Bool) : (s.setNZCV n z c v).freeCount = s.freeCount := rfl
@[simp] theorem State.setNZCV_params (n z c v : Bool) : (s.setNZCV n z c v).params = s.params := rfl

@[simp] theorem State.setGE_cpsr (ge : BitVec 4) : (s.setGE ge).cpsr = withField s.cpsr 16 ge := rfl
@[simp] theorem State.setGE_regs (ge : BitVec 4) : (s.setGE ge).regs = s.regs := rfl
@[simp] theorem State.setGE_pc (ge : BitVec 4) : (s.setGE ge).pc = s.pc := rfl
@[simp] theorem State.setGE_spsr (ge : BitVec 4) : (s.setGE ge).spsr = s.spsr := rfl
@[simp] theorem State.setGE_mem (ge : BitVec 4) : (s.setGE ge).mem = s.mem := rfl
@[simp] theorem State.setGE_written (ge : BitVec 4) : (s.setGE ge).written = s.written := rfl
@[simp] theorem State.setGE_localMonitor (ge : BitVec 4) : (s.setGE ge).localMonitor = s.localMonitor := rfl
@[simp] theorem State.setGE_globalMonitor (ge : BitVec 4) : (s.setGE ge).globalMonitor = s.globalMonitor := rfl
@[simp] theorem State.setGE_coproc (ge : BitVec 4) : (s.setGE ge).coproc = s.coproc := rfl
@[simp] theorem State.setGE_irqLine (ge : BitVec 4) : (s.setGE ge).irqLine = s.irqLine := rfl
@[simp] theorem State.setGE_fiqLine (ge : BitVec 4) : (s.setGE ge).fiqLine = s.fiqLine := rfl
@[simp] theorem State.setGE_abortLine (ge : BitVec 4) : (s.setGE ge).abortLine = s.abortLine := rfl
@[simp] theorem State.setGE_bankHazard (ge : BitVec 4) : (s.setGE ge).bankHazard = s.bankHazard := rfl
@[simp] theorem State.setGE_freeCount (ge : BitVec 4) : (s.setGE ge).freeCount = s.freeCount := rfl
@[simp] theorem State.setGE_params (ge : BitVec 4) : (s.setGE ge).params = s.params := rfl

@[simp] theorem State.setArithFlags_regs (r : AluOut) : (s.setArithFlags r).regs = s.regs := rfl
@[simp] theorem State.setArithFlags_pc (r : AluOut) : (s.setArithFlags r).pc = s.pc := rfl
@[simp] theorem State.setArithFlags_spsr (r : AluOut) : (s.setArithFlags r).spsr = s.spsr := rfl
@[simp] theorem State.setArithFlags_mem (r : AluOut) : (s.setArithFlags r).mem = s.mem := rfl
@[simp] theorem State.setArithFlags_written (r : AluOut) : (s.setArithFlags r).written = s.written := rfl
@[simp] theorem State.setArithFlags_localMonitor (r : AluOut) : (s.setArithFlags r).localMonitor = s.localMonitor := rfl
@[simp] theorem State.setArithFlags_globalMonitor (r : AluOut) : (s.setArithFlags r).globalMonitor = s.globalMonitor := rfl
@[simp] theorem State.setArithFlags_coproc (r : AluOut) : (s.setArithFlags r).coproc = s.coproc := rfl
@[simp] theorem State.setArithFlags_irqLine (r : AluOut) : (s.setArithFlags r).irqLine = s.irqLine := rfl
@[simp] theorem State.setArithFlags_fiqLine (r : AluOut) : (s.setArithFlags r).fiqLine = s.fiqLine := rfl
@[simp] theorem State.setArithFlags_abortLine (r : AluOut) : (s.setArithFlags r).abortLine = s.abortLine := rfl
@[simp] theorem State.setArithFlags_bankHazard (r : AluOut) : (s.setArithFlags r).bankHazard = s.bankHazard := rfl
@[simp] theorem State.setArithFlags_freeCount (r : AluOut) : (s.setArithFlags r).freeCount = s.freeCount := rfl
@[simp] theorem State.setArithFlags_params (r : AluOut) : (s.setArithFlags r).params = s.params := rfl

@[simp] theorem State.setLogicFlags_regs (v : Word) (c : Bool) : (s.setLogicFlags v c).regs = s.regs := rfl
@[simp] theorem State.setLogicFlags_pc (v : Word) (c : Bool) : (s.setLogicFlags v c).pc = s.pc := rfl
@[simp] theorem State.setLogicFlags_spsr (v : Word) (c : Bool) : (s.setLogicFlags v c).spsr = s.spsr := rfl
@[simp] theorem State.setLogicFlags_mem (v : Word) (c : Bool) : (s.setLogicFlags v c).mem = s.mem := rfl
@[simp] theorem State.setLogicFlags_written (v : Word) (c : Bool) : (s.setLogicFlags v c).written = s.written := rfl
@[simp] theorem State.setLogicFlags_localMonitor (v : Word) (c : Bool) : (s.setLogicFlags v c).localMonitor = s.localMonitor := rfl
@[simp] theorem State.setLogicFlags_globalMonitor (v : Word) (c : Bool) : (s.setLogicFlags v c).globalMonitor = s.globalMonitor := rfl
@[simp] theorem State.setLogicFlags_coproc (v : Word) (c : Bool) : (s.setLogicFlags v c).coproc = s.coproc := rfl
@[simp] theorem State.setLogicFlags_irqLine (v : Word) (c : Bool) : (s.setLogicFlags v c).irqLine = s.irqLine := rfl
@[simp] theorem State.setLogicFlags_fiqLine (v : Word) (c : Bool) : (s.setLogicFlags v c).fiqLine = s.fiqLine := rfl
@[simp] theorem State.setLogicFlags_abortLine (v : Word) (c : Bool) : (s.setLogicFlags v c).abortLine = s.abortLine := rfl
@[simp] theorem State.setLogicFlags_bankHazard (v : Word) (c : Bool) : (s.setLogicFlags v c).bankHazard = s.bankHazard := rfl
@[simp] theorem State.setLogicFlags_freeCount (v : Word) (c : Bool) : (s.setLogicFlags v c).freeCount = s.freeCount := rfl
@[simp] theorem State.setLogicFlags_params (v : Word) (c : Bool) : (s.setLogicFlags v c).params = s.params := rfl

@[simp] theorem State.writePhys_regs (p : PhysReg) (v : Word) : (s.writePhys p v).regs = s.regs.set p v := rfl
@[simp] theorem State.writePhys_pc (p : PhysReg) (v : Word) : (s.writePhys p v).pc = s.pc := rfl
@[simp] theorem State.writePhys_cpsr (p : PhysReg) (v : Word) : (s.writePhys p v).cpsr = s.cpsr := rfl
@[simp] theorem State.writePhys_spsr (p : PhysReg) (v : Word) : (s.writePhys p v).spsr = s.spsr := rfl
@[simp] theorem State.writePhys_mem (p : PhysReg) (v : Word) : (s.writePhys p v).mem = s.mem := rfl
@[simp] theorem State.writePhys_written (p : PhysReg) (v : Word) : (s.writePhys p v).written = s.written := rfl
@[simp] theorem State.writePhys_localMonitor (p : PhysReg) (v : Word) : (s.writePhys p v).localMonitor = s.localMonitor := rfl
@[simp] theorem State.writePhys_globalMonitor (p : PhysReg) (v : Word) : (s.writePhys p v).globalMonitor = s.globalMonitor := rfl
@[simp] theorem State.writePhys_coproc (p : PhysReg) (v : Word) : (s.writePhys p v).coproc = s.coproc := rfl
@[simp] theorem State.writePhys_irqLine (p : PhysReg) (v : Word) : (s.writePhys p v).irqLine = s.irqLine := rfl
@[simp] theorem State.writePhys_fiqLine (p : PhysReg) (v : Word) : (s.writePhys p v).fiqLine = s.fiqLine := rfl
@[simp] theorem State.writePhys_abortLine (p : PhysReg) (v : Word) : (s.writePhys p v).abortLine = s.abortLine := rfl
@[simp] theorem State.writePhys_bankHazard (p : PhysReg) (v : Word) : (s.writePhys p v).bankHazard = s.bankHazard := rfl
@[simp] theorem State.writePhys_freeCount (p : PhysReg) (v : Word) : (s.writePhys p v).freeCount = s.freeCount := rfl
@[simp] theorem State.writePhys_params (p : PhysReg) (v : Word) : (s.writePhys p v).params = s.params := rfl
@[simp] theorem State.writePhys_mode (p : PhysReg) (v : Word) : (s.writePhys p v).mode = s.mode := by simp [State.mode]

@[simp] theorem State.drawn_freeCount : (s.drawn).freeCount = s.freeCount + 1 := rfl
@[simp] theorem State.drawn_regs : (s.drawn).regs = s.regs := rfl
@[simp] theorem State.drawn_pc : (s.drawn).pc = s.pc := rfl
@[simp] theorem State.drawn_cpsr : (s.drawn).cpsr = s.cpsr := rfl
@[simp] theorem State.drawn_spsr : (s.drawn).spsr = s.spsr := rfl
@[simp] theorem State.drawn_mem : (s.drawn).mem = s.mem := rfl
@[simp] theorem State.drawn_written : (s.drawn).written = s.written := rfl
@[simp] theorem State.drawn_localMonitor : (s.drawn).localMonitor = s.localMonitor := rfl
@[simp] theorem State.drawn_globalMonitor : (s.drawn).globalMonitor = s.globalMonitor := rfl
@[simp] theorem State.drawn_coproc : (s.drawn).coproc = s.coproc := rfl
@[simp] theorem State.drawn_irqLine : (s.drawn).irqLine = s.irqLine := rfl
@[simp] theorem State.drawn_fiqLine : (s.drawn).fiqLine = s.fiqLine := rfl
@[simp] theorem State.drawn_abortLine : (s.drawn).abortLine = s.abortLine := rfl
@[simp] theorem State.drawn_bankHazard : (s.drawn).bankHazard = s.bankHazard := rfl
@[simp] theorem State.drawn_params : (s.drawn).params = s.params := rfl
@[simp] theorem State.drawn_mode : (s.drawn).mode = s.mode := by simp [State.mode]

@[simp] theorem State.putByte_mem (a : Word) (v : Byte) : (s.putByte a v).mem = Memory.write s.mem a.toNat v := rfl
@[simp] theorem State.putByte_written (a : Word) (v : Byte) : (s.putByte a v).written = AddrSet.insert s.written a.toNat := rfl
@[simp] theorem State.putByte_regs (a : Word) (v : Byte) : (s.putByte a v).regs = s.regs := rfl
@[simp] theorem State.putByte_pc (a : Word) (v : Byte) : (s.putByte a v).pc = s.pc := rfl
@[simp] theorem State.putByte_cpsr (a : Word) (v : Byte) : (s.putByte a v).cpsr = s.cpsr := rfl
@[simp] theorem State.putByte_spsr (a : Word) (v : Byte) : (s.putByte a v).spsr = s.spsr := rfl
@[simp] theorem State.putByte_localMonitor (a : Word) (v : Byte) : (s.putByte a v).localMonitor = s.localMonitor := rfl
@[simp] theorem State.putByte_globalMonitor (a : Word) (v : Byte) : (s.putByte a v).globalMonitor = s.globalMonitor := rfl
@[simp] theorem State.putByte_coproc (a : Word) (v : Byte) : (s.putByte a v).coproc = s.coproc := rfl
@[simp] theorem State.putByte_irqLine (a : Word) (v : Byte) : (s.putByte a v).irqLine = s.irqLine := rfl
@[simp] theorem State.putByte_fiqLine (a : Word) (v : Byte) : (s.putByte a v).fiqLine = s.fiqLine := rfl
@[simp] theorem State.putByte_abortLine (a : Word) (v : Byte) : (s.putByte a v).abortLine = s.abortLine := rfl
@[simp] theorem State.putByte_bankHazard (a : Word) (v : Byte) : (s.putByte a v).bankHazard = s.bankHazard := rfl
@[simp] theorem State.putByte_freeCount (a : Word) (v : Byte) : (s.putByte a v).freeCount = s.freeCount := rfl
@[simp] theorem State.putByte_params (a : Word) (v : Byte) : (s.putByte a v).params = s.params := rfl
@[simp] theorem State.putByte_mode (a : Word) (v : Byte) : (s.putByte a v).mode = s.mode := by simp [State.mode]

@[simp] theorem State.clearOthers_regs (a : Word) (n : Nat) : (s.clearOthers a n).regs = s.regs := rfl
@[simp] theorem State.clearOthers_pc (a : Word) (n : Nat) : (s.clearOthers a n).pc = s.pc := rfl
@[simp] theorem State.clearOthers_cpsr (a : Word) (n : Nat) : (s.clearOthers a n).cpsr = s.cpsr := rfl
@[simp] theorem State.clearOthers_spsr (a : Word) (n : Nat) : (s.clearOthers a n).spsr = s.spsr := rfl
@[simp] theorem State.clearOthers_mem (a : Word) (n : Nat) : (s.clearOthers a n).mem = s.mem := rfl
@[simp] theorem State.clearOthers_written (a : Word) (n : Nat) : (s.clearOthers a n).written = s.written := rfl
@[simp] theorem State.clearOthers_localMonitor (a : Word) (n : Nat) : (s.clearOthers a n).localMonitor = s.localMonitor := rfl
@[simp] theorem State.clearOthers_coproc (a : Word) (n : Nat) : (s.clearOthers a n).coproc = s.coproc := rfl
@[simp] theorem State.clearOthers_irqLine (a : Word) (n : Nat) : (s.clearOthers a n).irqLine = s.irqLine := rfl
@[simp] theorem State.clearOthers_fiqLine (a : Word) (n : Nat) : (s.clearOthers a n).fiqLine = s.fiqLine := rfl
@[simp] theorem State.clearOthers_abortLine (a : Word) (n : Nat) : (s.clearOthers a n).abortLine = s.abortLine := rfl
@[simp] theorem State.clearOthers_bankHazard (a : Word) (n : Nat) : (s.clearOthers a n).bankHazard = s.bankHazard := rfl
@[simp] theorem State.clearOthers_freeCount (a : Word) (n : Nat) : (s.clearOthers a n).freeCount = s.freeCount := rfl
@[simp] theorem State.clearOthers_params (a : Word) (n : Nat) : (s.clearOthers a n).params = s.params := rfl
@[simp] theorem State.clearOthers_mode (a : Word) (n : Nat) : (s.clearOthers a n).mode = s.mode := by simp [State.mode]

@[simp] theorem State.clearAfterStrex_regs (a : Word) : (s.clearAfterStrex a).regs = s.regs := rfl
@[simp] theorem State.clearAfterStrex_pc (a : Word) : (s.clearAfterStrex a).pc = s.pc := rfl
@[simp] theorem State.clearAfterStrex_cpsr (a : Word) : (s.clearAfterStrex a).cpsr = s.cpsr := rfl
@[simp] theorem State.clearAfterStrex_spsr (a : Word) : (s.clearAfterStrex a).spsr = s.spsr := rfl
@[simp] theorem State.clearAfterStrex_mem (a : Word) : (s.clearAfterStrex a).mem = s.mem := rfl
@[simp] theorem State.clearAfterStrex_written (a : Word) : (s.clearAfterStrex a).written = s.written := rfl
@[simp] theorem State.clearAfterStrex_localMonitor (a : Word) : (s.clearAfterStrex a).localMonitor = s.localMonitor := rfl
@[simp] theorem State.clearAfterStrex_coproc (a : Word) : (s.clearAfterStrex a).coproc = s.coproc := rfl
@[simp] theorem State.clearAfterStrex_irqLine (a : Word) : (s.clearAfterStrex a).irqLine = s.irqLine := rfl
@[simp] theorem State.clearAfterStrex_fiqLine (a : Word) : (s.clearAfterStrex a).fiqLine = s.fiqLine := rfl
@[simp] theorem State.clearAfterStrex_abortLine (a : Word) : (s.clearAfterStrex a).abortLine = s.abortLine := rfl
@[simp] theorem State.clearAfterStrex_bankHazard (a : Word) : (s.clearAfterStrex a).bankHazard = s.bankHazard := rfl
@[simp] theorem State.clearAfterStrex_freeCount (a : Word) : (s.clearAfterStrex a).freeCount = s.freeCount := rfl
@[simp] theorem State.clearAfterStrex_params (a : Word) : (s.clearAfterStrex a).params = s.params := rfl
@[simp] theorem State.clearAfterStrex_mode (a : Word) : (s.clearAfterStrex a).mode = s.mode := by simp [State.mode]

@[simp] theorem State.markLocal_localMonitor (a : Word) : (s.markLocal a).localMonitor = some ⟨a, 4⟩ := rfl
@[simp] theorem State.markLocal_regs (a : Word) : (s.markLocal a).regs = s.regs := rfl
@[simp] theorem State.markLocal_pc (a : Word) : (s.markLocal a).pc = s.pc := rfl
@[simp] theorem State.markLocal_cpsr (a : Word) : (s.markLocal a).cpsr = s.cpsr := rfl
@[simp] theorem State.markLocal_spsr (a : Word) : (s.markLocal a).spsr = s.spsr := rfl
@[simp] theorem State.markLocal_mem (a : Word) : (s.markLocal a).mem = s.mem := rfl
@[simp] theorem State.markLocal_written (a : Word) : (s.markLocal a).written = s.written := rfl
@[simp] theorem State.markLocal_globalMonitor (a : Word) : (s.markLocal a).globalMonitor = s.globalMonitor := rfl
@[simp] theorem State.markLocal_coproc (a : Word) : (s.markLocal a).coproc = s.coproc := rfl
@[simp] theorem State.markLocal_irqLine (a : Word) : (s.markLocal a).irqLine = s.irqLine := rfl
@[simp] theorem State.markLocal_fiqLine (a : Word) : (s.markLocal a).fiqLine = s.fiqLine := rfl
@[simp] theorem State.markLocal_abortLine (a : Word) : (s.markLocal a).abortLine = s.abortLine := rfl
@[simp] theorem State.markLocal_bankHazard (a : Word) : (s.markLocal a).bankHazard = s.bankHazard := rfl
@[simp] theorem State.markLocal_freeCount (a : Word) : (s.markLocal a).freeCount = s.freeCount := rfl
@[simp] theorem State.markLocal_params (a : Word) : (s.markLocal a).params = s.params := rfl
@[simp] theorem State.markLocal_mode (a : Word) : (s.markLocal a).mode = s.mode := by simp [State.mode]

@[simp] theorem State.openLocal_localMonitor : (s.openLocal).localMonitor = none := rfl
@[simp] theorem State.openLocal_regs : (s.openLocal).regs = s.regs := rfl
@[simp] theorem State.openLocal_pc : (s.openLocal).pc = s.pc := rfl
@[simp] theorem State.openLocal_cpsr : (s.openLocal).cpsr = s.cpsr := rfl
@[simp] theorem State.openLocal_spsr : (s.openLocal).spsr = s.spsr := rfl
@[simp] theorem State.openLocal_mem : (s.openLocal).mem = s.mem := rfl
@[simp] theorem State.openLocal_written : (s.openLocal).written = s.written := rfl
@[simp] theorem State.openLocal_globalMonitor : (s.openLocal).globalMonitor = s.globalMonitor := rfl
@[simp] theorem State.openLocal_coproc : (s.openLocal).coproc = s.coproc := rfl
@[simp] theorem State.openLocal_irqLine : (s.openLocal).irqLine = s.irqLine := rfl
@[simp] theorem State.openLocal_fiqLine : (s.openLocal).fiqLine = s.fiqLine := rfl
@[simp] theorem State.openLocal_abortLine : (s.openLocal).abortLine = s.abortLine := rfl
@[simp] theorem State.openLocal_bankHazard : (s.openLocal).bankHazard = s.bankHazard := rfl
@[simp] theorem State.openLocal_freeCount : (s.openLocal).freeCount = s.freeCount := rfl
@[simp] theorem State.openLocal_params : (s.openLocal).params = s.params := rfl
@[simp] theorem State.openLocal_mode : (s.openLocal).mode = s.mode := by simp [State.mode]

@[simp] theorem State.setCoproc_regs (cp : BitVec 4) (u : CoprocUnit) : (s.setCoproc cp u).regs = s.regs := rfl
@[simp] theorem State.setCoproc_pc (cp : BitVec 4) (u : CoprocUnit) : (s.setCoproc cp u).pc = s.pc := rfl
@[simp] theorem State.setCoproc_cpsr (cp : BitVec 4) (u : CoprocUnit) : (s.setCoproc cp u).cpsr = s.cpsr := rfl
@[simp] theorem State.setCoproc_spsr (cp : BitVec 4) (u : CoprocUnit) : (s.setCoproc cp u).spsr = s.spsr := rfl
@[simp] theorem State.setCoproc_mem (cp : BitVec 4) (u : CoprocUnit) : (s.setCoproc cp u).mem = s.mem := rfl
@[simp] theorem State.setCoproc_written (cp : BitVec 4) (u : CoprocUnit) : (s.setCoproc cp u).written = s.written := rfl
@[simp] theorem State.setCoproc_localMonitor (cp : BitVec 4) (u : CoprocUnit) : (s.setCoproc cp u).localMonitor = s.localMonitor := rfl
@[simp] theorem State.setCoproc_globalMonitor (cp : BitVec 4) (u : CoprocUnit) : (s.setCoproc cp u).globalMonitor = s.globalMonitor := rfl
@[simp] theorem State.setCoproc_irqLine (cp : BitVec 4) (u : CoprocUnit) : (s.setCoproc cp u).irqLine = s.irqLine := rfl
@[simp] theorem State.setCoproc_fiqLine (cp : BitVec 4) (u : CoprocUnit) : (s.setCoproc cp u).fiqLine = s.fiqLine := rfl
@[simp] theorem State.setCoproc_abortLine (cp : BitVec 4) (u : CoprocUnit) : (s.setCoproc cp u).abortLine = s.abortLine := rfl
@[simp] theorem State.setCoproc_bankHazard (cp : BitVec 4) (u : CoprocUnit) : (s.setCoproc cp u).bankHazard = s.bankHazard := rfl
@[simp] theorem State.setCoproc_freeCount (cp : BitVec 4) (u : CoprocUnit) : (s.setCoproc cp u).freeCount = s.freeCount := rfl
@[simp] theorem State.setCoproc_params (cp : BitVec 4) (u : CoprocUnit) : (s.setCoproc cp u).params = s.params := rfl
@[simp] theorem State.setCoproc_mode (cp : BitVec 4) (u : CoprocUnit) : (s.setCoproc cp u).mode = s.mode := by simp [State.mode]

@[simp] theorem State.enterException_pc (e : Exception) : (enterException e s).pc = vectorAddress s.params e := rfl
@[simp] theorem State.enterException_cpsr (e : Exception) : (enterException e s).cpsr = entryCpsr s.params e s.cpsr := rfl
@[simp] theorem State.enterException_spsr (e : Exception) : (enterException e s).spsr = s.spsr.set e.mode s.cpsr := rfl
@[simp] theorem State.enterException_regs (e : Exception) : (enterException e s).regs = s.regs.set e.link (s.pc + e.linkOffset) := rfl
@[simp] theorem State.enterException_mem (e : Exception) : (enterException e s).mem = s.mem := rfl
@[simp] theorem State.enterException_written (e : Exception) : (enterException e s).written = s.written := rfl
@[simp] theorem State.enterException_localMonitor (e : Exception) : (enterException e s).localMonitor = s.localMonitor := rfl
@[simp] theorem State.enterException_globalMonitor (e : Exception) : (enterException e s).globalMonitor = s.globalMonitor := rfl
@[simp] theorem State.enterException_coproc (e : Exception) : (enterException e s).coproc = s.coproc := rfl
@[simp] theorem State.enterException_irqLine (e : Exception) : (enterException e s).irqLine = s.irqLine := rfl
@[simp] theorem State.enterException_fiqLine (e : Exception) : (enterException e s).fiqLine = s.fiqLine := rfl
@[simp] theorem State.enterException_abortLine (e : Exception) : (enterException e s).abortLine = s.abortLine := rfl
@[simp] theorem State.enterException_bankHazard (e : Exception) : (enterException e s).bankHazard = s.bankHazard := rfl
@[simp] theorem State.enterException_freeCount (e : Exception) : (enterException e s).freeCount = s.freeCount := rfl
@[simp] theorem State.enterException_params (e : Exception) : (enterException e s).params = s.params := rfl

@[simp] theorem State.stickQ_regs (b : Bool) : (s.stickQ b).regs = s.regs := by cases b <;> rfl
@[simp] theorem State.stickQ_pc (b : Bool) : (s.stickQ b).pc = s.pc := by cases b <;> rfl
@[simp] theorem State.stickQ_spsr (b : Bool) : (s.stickQ b).spsr = s.spsr := by cases b <;> rfl
@[simp] theorem State.stickQ_mem (b : Bool) : (s.stickQ b).mem = s.mem := by cases b <;> rfl
@[simp] theorem State.stickQ_written (b : Bool) : (s.stickQ b).written = s.written := by cases b <;> rfl
@[simp] theorem State.stickQ_localMonitor (b : Bool) : (s.stickQ b).localMonitor = s.localMonitor := by cases b <;> rfl
@[simp] theorem State.stickQ_globalMonitor (b : Bool) : (s.stickQ b).globalMonitor = s.globalMonitor := by cases b <;> rfl
@[simp] theorem State.stickQ_coproc (b : Bool) : (s.stickQ b).coproc = s.coproc := by cases b <;> rfl
@[simp] theorem State.stickQ_irqLine (b : Bool) : (s.stickQ b).irqLine = s.irqLine := by cases b <;> rfl
@[simp] theorem State.stickQ_fiqLine (b : Bool) : (s.stickQ b).fiqLine = s.fiqLine := by cases b <;> rfl
@[simp] theorem State.stickQ_abortLine (b : Bool) : (s.stickQ b).abortLine = s.abortLine := by cases b <;> rfl
@[simp] theorem State.stickQ_bankHazard (b : Bool) : (s.stickQ b).bankHazard = s.bankHazard := by cases b <;> rfl
@[simp] theorem State.stickQ_freeCount (b : Bool) : (s.stickQ b).freeCount = s.freeCount := by cases b <;> rfl
@[simp] theorem State.stickQ_params (b : Bool) : (s.stickQ b).params = s.params := by cases b <;> rfl

@[simp] theorem State.markGlobal_regs (a : Word) : (s.markGlobal a).regs = s.regs := by unfold State.markGlobal; split <;> rfl
@[simp] theorem State.markGlobal_pc (a : Word) : (s.markGlobal a).pc = s.pc := by unfold State.markGlobal; split <;> rfl
@[simp] theorem State.markGlobal_cpsr (a : Word) : (s.markGlobal a).cpsr = s.cpsr := by unfold State.markGlobal; split <;> rfl
@[simp] theorem State.markGlobal_spsr (a : Word) : (s.markGlobal a).spsr = s.spsr := by unfold State.markGlobal; split <;> rfl
@[simp] theorem State.markGlobal_mem (a : Word) : (s.markGlobal a).mem = s.mem := by unfold State.markGlobal; split <;> rfl
@[simp] theorem State.markGlobal_written (a : Word) : (s.markGlobal a).written = s.written := by unfold State.markGlobal; split <;> rfl
@[simp] theorem State.markGlobal_localMonitor (a : Word) : (s.markGlobal a).localMonitor = s.localMonitor := by unfold State.markGlobal; split <;> rfl
@[simp] theorem State.markGlobal_coproc (a : Word) : (s.markGlobal a).coproc = s.coproc := by unfold State.markGlobal; split <;> rfl
@[simp] theorem State.markGlobal_irqLine (a : Word) : (s.markGlobal a).irqLine = s.irqLine := by unfold State.markGlobal; split <;> rfl
@[simp] theorem State.markGlobal_fiqLine (a : Word) : (s.markGlobal a).fiqLine = s.fiqLine := by unfold State.markGlobal; split <;> rfl
@[simp] theorem State.markGlobal_abortLine (a : Word) : (s.markGlobal a).abortLine = s.abortLine := by unfold State.markGlobal; split <;> rfl
@[simp] theorem State.markGlobal_bankHazard (a : Word) : (s.markGlobal a).bankHazard = s.bankHazard := by unfold State.markGlobal; split <;> rfl
@[simp] theorem State.markGlobal_freeCount (a : Word) : (s.markGlobal a).freeCount = s.freeCount := by unfold State.markGlobal; split <;> rfl
@[simp] theorem State.markGlobal_params (a : Word) : (s.markGlobal a).params = s.params := by unfold State.markGlobal; split <;> rfl
@[simp] theorem State.markGlobal_mode (a : Word) : (s.markGlobal a).mode = s.mode := by simp [State.mode]

@[simp] theorem State.clearOnStore_regs (a : Word) (n : Nat) : (s.clearOnStore a n).regs = s.regs := by unfold State.clearOnStore; split <;> rfl
@[simp] theorem State.clearOnStore_pc (a : Word) (n : Nat) : (s.clearOnStore a n).pc = s.pc := by unfold State.clearOnStore; split <;> rfl
@[simp] theorem State.clearOnStore_cpsr (a : Word) (n : Nat) : (s.clearOnStore a n).cpsr = s.cpsr := by unfold State.clearOnStore; split <;> rfl
@[simp] theorem State.clearOnStore_spsr (a : Word) (n : Nat) : (s.clearOnStore a n).spsr = s.spsr := by unfold State.clearOnStore; split <;> rfl
@[simp] theorem State.clearOnStore_mem (a : Word) (n : Nat) : (s.clearOnStore a n).mem = s.mem := by unfold State.clearOnStore; split <;> rfl
@[simp] theorem State.clearOnStore_written (a : Word) (n : Nat) : (s.clearOnStore a n).written = s.written := by unfold State.clearOnStore; split <;> rfl
@[simp] theorem State.clearOnStore_localMonitor (a : Word) (n : Nat) : (s.clearOnStore a n).localMonitor = s.localMonitor := by unfold State.clearOnStore; split <;> rfl
@[simp] theorem State.clearOnStore_coproc (a : Word) (n : Nat) : (s.clearOnStore a n).coproc = s.coproc := by unfold State.clearOnStore; split <;> rfl
@[simp] theorem State.clearOnStore_irqLine (a : Word) (n : Nat) : (s.clearOnStore a n).irqLine = s.irqLine := by unfold State.clearOnStore; split <;> rfl
@[simp] theorem State.clearOnStore_fiqLine (a : Word) (n : Nat) : (s.clearOnStore a n).fiqLine = s.fiqLine := by unfold State.clearOnStore; split <;> rfl
@[simp] theorem State.clearOnStore_abortLine (a : Word) (n : Nat) : (s.clearOnStore a n).abortLine = s.abortLine := by unfold State.clearOnStore; split <;> rfl
@[simp] theorem State.clearOnStore_bankHazard (a : Word) (n : Nat) : (s.clearOnStore a n).bankHazard = s.bankHazard := by unfold State.clearOnStore; split <;> rfl
@[simp] theorem State.clearOnStore_freeCount (a : Word) (n : Nat) : (s.clearOnStore a n).freeCount = s.freeCount := by unfold State.clearOnStore; split <;> rfl
@[simp] theorem State.clearOnStore_params (a : Word) (n : Nat) : (s.clearOnStore a n).params = s.params := by unfold State.clearOnStore; split <;> rfl
@[simp] theorem State.clearOnStore_mode (a : Word) (n : Nat) : (s.clearOnStore a n).mode = s.mode := by simp [State.mode]

@[simp] theorem State.setMulFlags_regs (n z : Bool) : (s.setMulFlags n z).regs = s.regs := by unfold State.setMulFlags; split <;> rfl
@[simp] theorem State.setMulFlags_pc (n z : Bool) : (s.setMulFlags n z).pc = s.pc := by unfold State.setMulFlags; split <;> rfl
@[simp] theorem State.setMulFlags_spsr (n z : Bool) : (s.setMulFlags n z).spsr = s.spsr := by unfold State.setMulFlags; split <;> rfl
@[simp] theorem State.setMulFlags_mem (n z : Bool) : (s.setMulFlags n z).mem = s.mem := by unfold State.setMulFlags; split <;> rfl
@[simp] theorem State.setMulFlags_written (n z : Bool) : (s.setMulFlags n z).written = s.written := by unfold State.setMulFlags; split <;> rfl
@[simp] theorem State.setMulFlags_localMonitor (n z : Bool) : (s.setMulFlags n z).localMonitor = s.localMonitor := by unfold State.setMulFlags; split <;> rfl
@[simp] theorem State.setMulFlags_globalMonitor (n z : Bool) : (s.setMulFlags n z).globalMonitor = s.globalMonitor := by unfold State.setMulFlags; split <;> rfl
@[simp] theorem State.setMulFlags_coproc (n z : Bool) : (s.setMulFlags n z).coproc = s.coproc := by unfold State.setMulFlags; split <;> rfl
@[simp] theorem State.setMulFlags_irqLine (n z : Bool) : (s.setMulFlags n z).irqLine = s.irqLine := by unfold State.setMulFlags; split <;> rfl
@[simp] theorem State.setMulFlags_fiqLine (n z : Bool) : (s.setMulFlags n z).fiqLine = s.fiqLine := by unfold State.setMulFlags; split <;> rfl
@[simp] theorem State.setMulFlags_abortLine (n z : Bool) : (s.setMulFlags n z).abortLine = s.abortLine := by unfold State.setMulFlags; split <;> rfl
@[simp] theorem State.setMulFlags_bankHazard (n z : Bool) : (s.setMulFlags n z).bankHazard = s.bankHazard := by unfold State.setMulFlags; split <;> rfl
@[simp] theorem State.setMulFlags_params (n z : Bool) : (s.setMulFlags n z).params = s.params := by unfold State.setMulFlags; split <;> rfl

@[simp] theorem State.setMulLongFlags_regs (n z : Bool) : (s.setMulLongFlags n z).regs = s.regs := by unfold State.setMulLongFlags; split <;> rfl
@[simp] theorem State.setMulLongFlags_pc (n z : Bool) : (s.setMulLongFlags n z).pc = s.pc := by unfold State.setMulLongFlags; split <;> rfl
@[simp] theorem State.setMulLongFlags_spsr (n z : Bool) : (s.setMulLongFlags n z).spsr = s.spsr := by unfold State.setMulLongFlags; split <;> rfl
@[simp] theorem State.setMulLongFlags_mem (n z : Bool) : (s.setMulLongFlags n z).mem = s.mem := by unfold State.setMulLongFlags; split <;> rfl
@[simp] theorem State.setMulLongFlags_written (n z : Bool) : (s.setMulLongFlags n z).written = s.written := by unfold State.setMulLongFlags; split <;> rfl
@[simp] theorem State.setMulLongFlags_localMonitor (n z : Bool) : (s.setMulLongFlags n z).localMonitor = s.localMonitor := by unfold State.setMulLongFlags; split <;> rfl
@[simp] theorem State.setMulLongFlags_globalMonitor (n z : Bool) : (s.setMulLongFlags n z).globalMonitor = s.globalMonitor := by unfold State.setMulLongFlags; split <;> rfl
@[simp] theorem State.setMulLongFlags_coproc (n z : Bool) : (s.setMulLongFlags n z).coproc = s.coproc := by unfold State.setMulLongFlags; split <;> rfl
@[simp] theorem State.setMulLongFlags_irqLine (n z : Bool) : (s.setMulLongFlags n z).irqLine = s.irqLine := by unfold State.setMulLongFlags; split <;> rfl
@[simp] theorem State.setMulLongFlags_fiqLine (n z : Bool) : (s.setMulLongFlags n z).fiqLine = s.fiqLine := by unfold State.setMulLongFlags; split <;> rfl
@[simp] theorem State.setMulLongFlags_abortLine (n z : Bool) : (s.setMulLongFlags n z).abortLine = s.abortLine := by unfold State.setMulLongFlags; split <;> rfl
@[simp] theorem State.setMulLongFlags_bankHazard (n z : Bool) : (s.setMulLongFlags n z).bankHazard = s.bankHazard := by unfold State.setMulLongFlags; split <;> rfl
@[simp] theorem State.setMulLongFlags_params (n z : Bool) : (s.setMulLongFlags n z).params = s.params := by unfold State.setMulLongFlags; split <;> rfl

@[simp] theorem State.armHazard_regs : (s.armHazard).regs = s.regs := by unfold State.armHazard; split <;> rfl
@[simp] theorem State.armHazard_pc : (s.armHazard).pc = s.pc := by unfold State.armHazard; split <;> rfl
@[simp] theorem State.armHazard_cpsr : (s.armHazard).cpsr = s.cpsr := by unfold State.armHazard; split <;> rfl
@[simp] theorem State.armHazard_spsr : (s.armHazard).spsr = s.spsr := by unfold State.armHazard; split <;> rfl
@[simp] theorem State.armHazard_mem : (s.armHazard).mem = s.mem := by unfold State.armHazard; split <;> rfl
@[simp] theorem State.armHazard_written : (s.armHazard).written = s.written := by unfold State.armHazard; split <;> rfl
@[simp] theorem State.armHazard_localMonitor : (s.armHazard).localMonitor = s.localMonitor := by unfold State.armHazard; split <;> rfl
@[simp] theorem State.armHazard_globalMonitor : (s.armHazard).globalMonitor = s.globalMonitor := by unfold State.armHazard; split <;> rfl
@[simp] theorem State.armHazard_coproc : (s.armHazard).coproc = s.coproc := by unfold State.armHazard; split <;> rfl
@[simp] theorem State.armHazard_irqLine : (s.armHazard).irqLine = s.irqLine := by unfold State.armHazard; split <;> rfl
@[simp] theorem State.armHazard_fiqLine : (s.armHazard).fiqLine = s.fiqLine := by unfold State.armHazard; split <;> rfl
@[simp] theorem State.armHazard_abortLine : (s.armHazard).abortLine = s.abortLine := by unfold State.armHazard; split <;> rfl
@[simp] theorem State.armHazard_freeCount : (s.armHazard).freeCount = s.freeCount := by unfold State.armHazard; split <;> rfl
@[simp] theorem State.armHazard_params : (s.armHazard).params = s.params := by unfold State.armHazard; split <;> rfl
@[simp] theorem State.armHazard_mode : (s.armHazard).mode = s.mode := by simp [State.mode]

@[simp] theorem State.wake_regs : (s.wake).regs = s.regs := by unfold State.wake; split <;> rfl
@[simp] theorem State.wake_pc : (s.wake).pc = s.pc := by unfold State.wake; split <;> rfl
@[simp] theorem State.wake_cpsr : (s.wake).cpsr = s.cpsr := by unfold State.wake; split <;> rfl
@[simp] theorem State.wake_spsr : (s.wake).spsr = s.spsr := by unfold State.wake; split <;> rfl
@[simp] theorem State.wake_mem : (s.wake).mem = s.mem := by unfold State.wake; split <;> rfl
@[simp] theorem State.wake_written : (s.wake).written = s.written := by unfold State.wake; split <;> rfl
@[simp] theorem State.wake_localMonitor : (s.wake).localMonitor = s.localMonitor := by unfold State.wake; split <;> rfl
@[simp] theorem State.wake_globalMonitor : (s.wake).globalMonitor = s.globalMonitor := by unfold State.wake; split <;> rfl
@[simp] theorem State.wake_coproc : (s.wake).coproc = s.coproc := by unfold State.wake; split <;> rfl
@[simp] theorem State.wake_irqLine : (s.wake).irqLine = s.irqLine := by unfold State.wake; split <;> rfl
@[simp] theorem State.wake_fiqLine : (s.wake).fiqLine = s.fiqLine := by unfold State.wake; split <;> rfl
@[simp] theorem State.wake_abortLine : (s.wake).abortLine = s.abortLine := by unfold State.wake; split <;> rfl
@[simp] theorem State.wake_freeCount : (s.wake).freeCount = s.freeCount := by unfold State.wake; split <;> rfl
@[simp] theorem State.wake_params : (s.wake).params = s.params := by unfold State.wake; split <;> rfl
@[simp] theorem State.wake_mode : (s.wake).mode = s.mode := by simp [State.mode]

@[simp] theorem State.settle_regs : (s.settle).regs = s.regs := by unfold State.settle; split <;> rfl
@[simp] theorem State.settle_pc : (s.settle).pc = s.pc := by unfold State.settle; split <;> rfl
@[simp] theorem State.settle_cpsr : (s.settle).cpsr = s.cpsr := by unfold State.settle; split <;> rfl
@[simp] theorem State.settle_spsr : (s.settle).spsr = s.spsr := by unfold State.settle; split <;> rfl
@[simp] theorem State.settle_mem : (s.settle).mem = s.mem := by unfold State.settle; split <;> rfl
@[simp] theorem State.settle_written : (s.settle).written = s.written := by unfold State.settle; split <;> rfl
@[simp] theorem State.settle_localMonitor : (s.settle).localMonitor = s.localMonitor := by unfold State.settle; split <;> rfl
@[simp] theorem State.settle_globalMonitor : (s.settle).globalMonitor = s.globalMonitor := by unfold State.settle; split <;> rfl
@[simp] theorem State.settle_coproc : (s.settle).coproc = s.coproc := by unfold State.settle; split <;> rfl
@[simp] theorem State.settle_irqLine : (s.settle).irqLine = s.irqLine := by unfold State.settle; split <;> rfl
@[simp] theorem State.settle_fiqLine : (s.settle).fiqLine = s.fiqLine := by unfold State.settle; split <;> rfl
@[simp] theorem State.settle_abortLine : (s.settle).abortLine = s.abortLine := by unfold State.settle; split <;> rfl
@[simp] theorem State.settle_freeCount : (s.settle).freeCount = s.freeCount := by unfold State.settle; split <;> rfl
@[simp] theorem State.settle_params : (s.settle).params = s.params := by unfold State.settle; split <;> rfl
@[simp] theorem State.settle_mode : (s.settle).mode = s.mode := by simp [State.mode]

@[simp] theorem State.writeRegIn_pc (m : Mode) (n : Reg) (v : Word) : (s.writeRegIn m n v).pc = s.pc := by unfold State.writeRegIn; split <;> rfl
@[simp] theorem State.writeRegIn_cpsr (m : Mode) (n : Reg) (v : Word) : (s.writeRegIn m n v).cpsr = s.cpsr := by unfold State.writeRegIn; split <;> rfl
@[simp] theorem State.writeRegIn_spsr (m : Mode) (n : Reg) (v : Word) : (s.writeRegIn m n v).spsr = s.spsr := by unfold State.writeRegIn; split <;> rfl
@[simp] theorem State.writeRegIn_mem (m : Mode) (n : Reg) (v : Word) : (s.writeRegIn m n v).mem = s.mem := by unfold State.writeRegIn; split <;> rfl
@[simp] theorem State.writeRegIn_written (m : Mode) (n : Reg) (v : Word) : (s.writeRegIn m n v).written = s.written := by unfold State.writeRegIn; split <;> rfl
@[simp] theorem State.writeRegIn_localMonitor (m : Mode) (n : Reg) (v : Word) : (s.writeRegIn m n v).localMonitor = s.localMonitor := by unfold State.writeRegIn; split <;> rfl
@[simp] theorem State.writeRegIn_globalMonitor (m : Mode) (n : Reg) (v : Word) : (s.writeRegIn m n v).globalMonitor = s.globalMonitor := by unfold State.writeRegIn; split <;> rfl
@[simp] theorem State.writeRegIn_coproc (m : Mode) (n : Reg) (v : Word) : (s.writeRegIn m n v).coproc = s.coproc := by unfold State.writeRegIn; split <;> rfl
@[simp] theorem State.writeRegIn_irqLine (m : Mode) (n : Reg) (v : Word) : (s.writeRegIn m n v).irqLine = s.irqLine := by unfold State.writeRegIn; split <;> rfl
@[simp] theorem State.writeRegIn_fiqLine (m : Mode) (n : Reg) (v : Word) : (s.writeRegIn m n v).fiqLine = s.fiqLine := by unfold State.writeRegIn; split <;> rfl
@[simp] theorem State.writeRegIn_abortLine (m : Mode) (n : Reg) (v : Word) : (s.writeRegIn m n v).abortLine = s.abortLine := by unfold State.writeRegIn; split <;> rfl
@[simp] theorem State.writeRegIn_bankHazard (m : Mode) (n : Reg) (v : Word) : (s.writeRegIn m n v).bankHazard = s.bankHazard := by unfold State.writeRegIn; split <;> rfl
@[simp] theorem State.writeRegIn_freeCount (m : Mode) (n : Reg) (v : Word) : (s.writeRegIn m n v).freeCount = s.freeCount := by unfold State.writeRegIn; split <;> rfl
@[simp] theorem State.writeRegIn_params (m : Mode) (n : Reg) (v : Word) : (s.writeRegIn m n v).params = s.params := by unfold State.writeRegIn; split <;> rfl
@[simp] theorem State.writeRegIn_mode (m : Mode) (n : Reg) (v : Word) : (s.writeRegIn m n v).mode = s.mode := by simp [State.mode]

@[simp] theorem State.writeReg_pc (n : Reg) (v : Word) : (s.writeReg n v).pc = s.pc := by simp [State.writeReg]
@[simp] theorem State.writeReg_cpsr (n : Reg) (v : Word) : (s.writeReg n v).cpsr = s.cpsr := by simp [State.writeReg]
@[simp] theorem State.writeReg_spsr (n : Reg) (v : Word) : (s.writeReg n v).spsr = s.spsr := by simp [State.writeReg]
@[simp] theorem State.writeReg_mem (n : Reg) (v : Word) : (s.writeReg n v).mem = s.mem := by simp [State.writeReg]
@[simp] theorem State.writeReg_written (n : Reg) (v : Word) : (s.writeReg n v).written = s.written := by simp [State.writeReg]
@[simp] theorem State.writeReg_localMonitor (n : Reg) (v : Word) : (s.writeReg n v).localMonitor = s.localMonitor := by simp [State.writeReg]
@[simp] theorem State.writeReg_globalMonitor (n : Reg) (v : Word) : (s.writeReg n v).globalMonitor = s.globalMonitor := by simp [State.writeReg]
@[simp] theorem State.writeReg_coproc (n : Reg) (v : Word) : (s.writeReg n v).coproc = s.coproc := by simp [State.writeReg]
@[simp] theorem State.writeReg_irqLine (n : Reg) (v : Word) : (s.writeReg n v).irqLine = s.irqLine := by simp [State.writeReg]
@[simp] theorem State.writeReg_fiqLine (n : Reg) (v : Word) : (s.writeReg n v).fiqLine = s.fiqLine := by simp [State.writeReg]
@[simp] theorem State.writeReg_abortLine (n : Reg) (v : Word) : (s.writeReg n v).abortLine = s.abortLine := by simp [State.writeReg]
@[simp] theorem State.writeReg_bankHazard (n : Reg) (v : Word) : (s.writeReg n v).bankHazard = s.bankHazard := by simp [State.writeReg]
@[simp] theorem State.writeReg_freeCount (n : Reg) (v : Word) : (s.writeReg n v).freeCount = s.freeCount := by simp [State.writeReg]
@[simp] theorem State.writeReg_params (n : Reg) (v : Word) : (s.writeReg n v).params = s.params := by simp [State.writeReg]
@[simp] theorem State.writeReg_mode (n : Reg) (v : Word) : (s.writeReg n v).mode = s.mode := by simp [State.mode]

@[simp] theorem State.writeBack_pc (n : Reg) (v : Option Word) : (s.writeBack n v).pc = s.pc := by cases v <;> simp [State.writeBack]
@[simp] theorem State.writeBack_cpsr (n : Reg) (v : Option Word) : (s.writeBack n v).cpsr = s.cpsr := by cases v <;> simp [State.writeBack]
@[simp] theorem State.writeBack_spsr (n : Reg) (v : Option Word) : (s.writeBack n v).spsr = s.spsr := by cases v <;> simp [State.writeBack]
@[simp] theorem State.writeBack_mem (n : Reg) (v : Option Word) : (s.writeBack n v).mem = s.mem := by cases v <;> simp [State.writeBack]
@[simp] theorem State.writeBack_written (n : Reg) (v : Option Word) : (s.writeBack n v).written = s.written := by cases v <;> simp [State.writeBack]
@[simp] theorem State.writeBack_localMonitor (n : Reg) (v : Option Word) : (s.writeBack n v).localMonitor = s.localMonitor := by cases v <;> simp [State.writeBack]
@[simp] theorem State.writeBack_globalMonitor (n : Reg) (v : Option Word) : (s.writeBack n v).globalMonitor = s.globalMonitor := by cases v <;> simp [State.writeBack]
@[simp] theorem State.writeBack_coproc (n : Reg) (v : Option Word) : (s.writeBack n v).coproc = s.coproc := by cases v <;> simp [State.writeBack]
@[simp] theorem State.writeBack_irqLine (n : Reg) (v : Option Word) : (s.writeBack n v).irqLine = s.irqLine := by cases v <;> simp [State.writeBack]
@[simp] theorem State.writeBack_fiqLine (n : Reg) (v : Option Word) : (s.writeBack n v).fiqLine = s.fiqLine := by cases v <;> simp [State.writeBack]
@[simp] theorem State.writeBack_abortLine (n : Reg) (v : Option Word) : (s.writeBack n v).abortLine = s.abortLine := by cases v <;> simp [State.writeBack]
@[simp] theorem State.writeBack_bankHazard (n : Reg) (v : Option Word) : (s.writeBack n v).bankHazard = s.bankHazard := by cases v <;> simp [State.writeBack]
@[simp] theorem State.writeBack_freeCount (n : Reg) (v : Option Word) : (s.writeBack n v).freeCount = s.freeCount := by cases v <;> simp [State.writeBack]
@[simp] theorem State.writeBack_params (n : Reg) (v : Option Word) : (s.writeBack n v).params = s.params := by cases v <;> simp [State.writeBack]
@[simp] theorem State.writeBack_mode (n : Reg) (v : Option Word) : (s.writeBack n v).mode = s.mode := by simp [State.mode]

@[simp] theorem State.writeBaseIf_pc (w : Bool) (n : Reg) (v : Word) : (s.writeBaseIf w n v).pc = s.pc := by cases w <;> simp [State.writeBaseIf]
@[simp] theorem State.writeBaseIf_cpsr (w : Bool) (n : Reg) (v : Word) : (s.writeBaseIf w n v).cpsr = s.cpsr := by cases w <;> simp [State.writeBaseIf]
@[simp] theorem State.writeBaseIf_spsr (w : Bool) (n : Reg) (v : Word) : (s.writeBaseIf w n v).spsr = s.spsr := by cases w <;> simp [State.writeBaseIf]
@[simp] theorem State.writeBaseIf_mem (w : Bool) (n : Reg) (v : Word) : (s.writeBaseIf w n v).mem = s.mem := by cases w <;> simp [State.writeBaseIf]
@[simp] theorem State.writeBaseIf_written (w : Bool) (n : Reg) (v : Word) : (s.writeBaseIf w n v).written = s.written := by cases w <;> simp [State.writeBaseIf]
@[simp] theorem State.writeBaseIf_localMonitor (w : Bool) (n : Reg) (v : Word) : (s.writeBaseIf w n v).localMonitor = s.localMonitor := by cases w <;> simp [State.writeBaseIf]
@[simp] theorem State.writeBaseIf_globalMonitor (w : Bool) (n : Reg) (v : Word) : (s.writeBaseIf w n v).globalMonitor = s.globalMonitor := by cases w <;> simp [State.writeBaseIf]
@[simp] theorem State.writeBaseIf_coproc (w : Bool) (n : Reg) (v : Word) : (s.writeBaseIf w n v).coproc = s.coproc := by cases w <;> simp [State.writeBaseIf]
@[simp] theorem State.writeBaseIf_irqLine (w : Bool) (n : Reg) (v : Word) : (s.writeBaseIf w n v).irqLine = s.irqLine := by cases w <;> simp [State.writeBaseIf]
@[simp] theorem State.writeBaseIf_fiqLine (w : Bool) (n : Reg) (v : Word) : (s.writeBaseIf w n v).fiqLine = s.fiqLine := by cases w <;> simp [State.writeBaseIf]
@[simp] theorem State.writeBaseIf_abortLine (w : Bool) (n : Reg) (v : Word) : (s.writeBaseIf w n v).abortLine = s.abortLine := by cases w <;> simp [State.writeBaseIf]
@[simp] theorem State.writeBaseIf_bankHazard (w : Bool) (n : Reg) (v : Word) : (s.writeBaseIf w n v).bankHazard = s.bankHazard := by cases w <;> simp [State.writeBaseIf]
@[simp] theorem State.writeBaseIf_freeCount (w : Bool) (n : Reg) (v : Word) : (s.writeBaseIf w n v).freeCount = s.freeCount := by cases w <;> simp [State.writeBaseIf]
@[simp] theorem State.writeBaseIf_params (w : Bool) (n : Reg) (v : Word) : (s.writeBaseIf w n v).params = s.params := by cases w <;> simp [State.writeBaseIf]
@[simp] theorem State.writeBaseIf_mode (w : Bool) (n : Reg) (v : Word) : (s.writeBaseIf w n v).mode = s.mode := by simp [State.mode]

@[simp] theorem State.freeBase_pc (w : Bool) (n : Reg) (l : BitVec 16) : (s.freeBase w n l).pc = s.pc := by unfold State.freeBase; split <;> simp
@[simp] theorem State.freeBase_cpsr (w : Bool) (n : Reg) (l : BitVec 16) : (s.freeBase w n l).cpsr = s.cpsr := by unfold State.freeBase; split <;> simp
@[simp] theorem State.freeBase_spsr (w : Bool) (n : Reg) (l : BitVec 16) : (s.freeBase w n l).spsr = s.spsr := by unfold State.freeBase; split <;> simp
@[simp] theorem State.freeBase_mem (w : Bool) (n : Reg) (l : BitVec 16) : (s.freeBase w n l).mem = s.mem := by unfold State.freeBase; split <;> simp
@[simp] theorem State.freeBase_written (w : Bool) (n : Reg) (l : BitVec 16) : (s.freeBase w n l).written = s.written := by unfold State.freeBase; split <;> simp
@[simp] theorem State.freeBase_localMonitor (w : Bool) (n : Reg) (l : BitVec 16) : (s.freeBase w n l).localMonitor = s.localMonitor := by unfold State.freeBase; split <;> simp
@[simp] theorem State.freeBase_globalMonitor (w : Bool) (n : Reg) (l : BitVec 16) : (s.freeBase w n l).globalMonitor = s.globalMonitor := by unfold State.freeBase; split <;> simp
@[simp] theorem State.freeBase_coproc (w : Bool) (n : Reg) (l : BitVec 16) : (s.freeBase w n l).coproc = s.coproc := by unfold State.freeBase; split <;> simp
@[simp] theorem State.freeBase_irqLine (w : Bool) (n : Reg) (l : BitVec 16) : (s.freeBase w n l).irqLine = s.irqLine := by unfold State.freeBase; split <;> simp
@[simp] theorem State.freeBase_fiqLine (w : Bool) (n : Reg) (l : BitVec 16) : (s.freeBase w n l).fiqLine = s.fiqLine := by unfold State.freeBase; split <;> simp
@[simp] theorem State.freeBase_abortLine (w : Bool) (n : Reg) (l : BitVec 16) : (s.freeBase w n l).abortLine = s.abortLine := by unfold State.freeBase; split <;> simp
@[simp] theorem State.freeBase_bankHazard (w : Bool) (n : Reg) (l : BitVec 16) : (s.freeBase w n l).bankHazard = s.bankHazard := by unfold State.freeBase; split <;> simp
@[simp] theorem State.freeBase_params (w : Bool) (n : Reg) (l : BitVec 16) : (s.freeBase w n l).params = s.params := by unfold State.freeBase; split <;> simp
@[simp] theorem State.freeBase_mode (w : Bool) (n : Reg) (l : BitVec 16) : (s.freeBase w n l).mode = s.mode := by simp [State.mode]

@[simp] theorem State.putBytes_regs (a : Word) (vs : List Byte) : (s.putBytes a vs).regs = s.regs := by
  induction vs generalizing s a with
  | nil => rfl
  | cons v vs ih => simp [State.putBytes, ih]
@[simp] theorem State.putBytes_pc (a : Word) (vs : List Byte) : (s.putBytes a vs).pc = s.pc := by
  induction vs generalizing s a with
  | nil => rfl
  | cons v vs ih => simp [State.putBytes, ih]
@[simp] theorem State.putBytes_cpsr (a : Word) (vs : List Byte) : (s.putBytes a vs).cpsr = s.cpsr := by
  induction vs generalizing s a with
  | nil => rfl
  | cons v vs ih => simp [State.putBytes, ih]
@[simp] theorem State.putBytes_spsr (a : Word) (vs : List Byte) : (s.putBytes a vs).spsr = s.spsr := by
  induction vs generalizing s a with
  | nil => rfl
  | cons v vs ih => simp [State.putBytes, ih]
@[simp] theorem State.putBytes_localMonitor (a : Word) (vs : List Byte) : (s.putBytes a vs).localMonitor = s.localMonitor := by
  induction vs generalizing s a with
  | nil => rfl
  | cons v vs ih => simp [State.putBytes, ih]
@[simp] theorem State.putBytes_globalMonitor (a : Word) (vs : List Byte) : (s.putBytes a vs).globalMonitor = s.globalMonitor := by
  induction vs generalizing s a with
  | nil => rfl
  | cons v vs ih => simp [State.putBytes, ih]
@[simp] theorem State.putBytes_coproc (a : Word) (vs : List Byte) : (s.putBytes a vs).coproc = s.coproc := by
  induction vs generalizing s a with
  | nil => rfl
  | cons v vs ih => simp [State.putBytes, ih]
@[simp] theorem State.putBytes_irqLine (a : Word) (vs : List Byte) : (s.putBytes a vs).irqLine = s.irqLine := by
  induction vs generalizing s a with
  | nil => rfl
  | cons v vs ih => simp [State.putBytes, ih]
@[simp] theorem State.putBytes_fiqLine (a : Word) (vs : List Byte) : (s.putBytes a vs).fiqLine = s.fiqLine := by
  induction vs generalizing s a with
  | nil => rfl
  | cons v vs ih => simp [State.putBytes, ih]
@[simp] theorem State.putBytes_abortLine (a : Word) (vs : List Byte) : (s.putBytes a vs).abortLine = s.abortLine := by
  induction vs generalizing s a with
  | nil => rfl
  | cons v vs ih => simp [State.putBytes, ih]
@[simp] theorem State.putBytes_bankHazard (a : Word) (vs : List Byte) : (s.putBytes a vs).bankHazard = s.bankHazard := by
  induction vs generalizing s a with
  | nil => rfl
  | cons v vs ih => simp [State.putBytes, ih]
@[simp] theorem State.putBytes_freeCount (a : Word) (vs : List Byte) : (s.putBytes a vs).freeCount = s.freeCount := by
  induction vs generalizing s a with
  | nil => rfl
  | cons v vs ih => simp [State.putBytes, ih]
@[simp] theorem State.putBytes_params (a : Word) (vs : List Byte) : (s.putBytes a vs).params = s.params := by
  induction vs generalizing s a with
  | nil => rfl
  | cons v vs ih => simp [State.putBytes, ih]
@[simp] theorem State.putBytes_mode (a : Word) (vs : List Byte) : (s.putBytes a vs).mode = s.mode := by simp [State.mode]

@[simp] theorem State.store_regs (a : Word) (vs : List Byte) : (s.store a vs).regs = s.regs := by simp [State.store]
@[simp] theorem State.store_pc (a : Word) (vs : List Byte) : (s.store a vs).pc = s.pc := by simp [State.store]
@[simp] theorem State.store_cpsr (a : Word) (vs : List Byte) : (s.store a vs).cpsr = s.cpsr := by simp [State.store]
@[simp] theorem State.store_spsr (a : Word) (vs : List Byte) : (s.store a vs).spsr = s.spsr := by simp [State.store]
@[simp] theorem State.store_localMonitor (a : Word) (vs : List Byte) : (s.store a vs).localMonitor = s.localMonitor := by simp [State.store]
@[simp] theorem State.store_coproc (a : Word) (vs : List Byte) : (s.store a vs).coproc = s.coproc := by simp [State.store]
@[simp] theorem State.store_irqLine (a : Word) (vs : List Byte) : (s.store a vs).irqLine = s.irqLine := by simp [State.store]
@[simp] theorem State.store_fiqLine (a : Word) (vs : List Byte) : (s.store a vs).fiqLine = s.fiqLine := by simp [State.store]
@[simp] theorem State.store_abortLine (a : Word) (vs : List Byte) : (s.store a vs).abortLine = s.abortLine := by simp [State.store]
@[simp] theorem State.store_bankHazard (a : Word) (vs : List Byte) : (s.store a vs).bankHazard = s.bankHazard := by simp [State.store]
@[simp] theorem State.store_freeCount (a : Word) (vs : List Byte) : (s.store a vs).freeCount = s.freeCount := by simp [State.store]
@[simp] theorem State.store_params (a : Word) (vs : List Byte) : (s.store a vs).params = s.params := by simp [State.store]
@[simp] theorem State.store_mode (a : Word) (vs : List Byte) : (s.store a vs).mode = s.mode := by simp [State.mode]

@[simp] theorem State.storeWord_regs (a v : Word) : (s.storeWord a v).regs = s.regs := by simp [State.storeWord]
@[simp] theorem State.storeWord_pc (a v : Word) : (s.storeWord a v).pc = s.pc := by simp [State.storeWord]
@[simp] theorem State.storeWord_cpsr (a v : Word) : (s.storeWord a v).cpsr = s.cpsr := by simp [State.storeWord]
@[simp] theorem State.storeWord_spsr (a v : Word) : (s.storeWord a v).spsr = s.spsr := by simp [State.storeWord]
@[simp] theorem State.storeWord_localMonitor (a v : Word) : (s.storeWord a v).localMonitor = s.localMonitor := by simp [State.storeWord]
@[simp] theorem State.storeWord_coproc (a v : Word) : (s.storeWord a v).coproc = s.coproc := by simp [State.storeWord]
@[simp] theorem State.storeWord_irqLine (a v : Word) : (s.storeWord a v).irqLine = s.irqLine := by simp [State.storeWord]
@[simp] theorem State.storeWord_fiqLine (a v : Word) : (s.storeWord a v).fiqLine = s.fiqLine := by simp [State.storeWord]
@[simp] theorem State.storeWord_abortLine (a v : Word) : (s.storeWord a v).abortLine = s.abortLine := by simp [State.storeWord]
@[simp] theorem State.storeWord_bankHazard (a v : Word) : (s.storeWord a v).bankHazard = s.bankHazard := by simp [State.storeWord]
@[simp] theorem State.storeWord_freeCount (a v : Word) : (s.storeWord a v).freeCount = s.freeCount := by simp [State.storeWord]
@[simp] theorem State.storeWord_params (a v : Word) : (s.storeWord a v).params = s.params := by simp [State.storeWord]
@[simp] theorem State.storeWord_mode (a v : Word) : (s.storeWord a v).mode = s.mode := by simp [State.mode]

@[simp] theorem State.storeWords_regs (a : Word) (vs : List Word) : (s.storeWords a vs).regs = s.regs := by
  induction vs generalizing s a with
  | nil => rfl
  | cons v vs ih => simp [State.storeWords, ih]
@[simp] theorem State.storeWords_pc (a : Word) (vs : List Word) : (s.storeWords a vs).pc = s.pc := by
  induction vs generalizing s a with
  | nil => rfl
  | cons v vs ih => simp [State.storeWords, ih]
@[simp] theorem State.storeWords_cpsr (a : Word) (vs : List Word) : (s.storeWords a vs).cpsr = s.cpsr := by
  induction vs generalizing s a with
  | nil => rfl
  | cons v vs ih => simp [State.storeWords, ih]
@[simp] theorem State.storeWords_spsr (a : Word) (vs : List Word) : (s.storeWords a vs).spsr = s.spsr := by
  induction vs generalizing s a with
  | nil => rfl
  | cons v vs ih => simp [State.storeWords, ih]
@[simp] theorem State.storeWords_localMonitor (a : Word) (vs : List Word) : (s.storeWords a vs).localMonitor = s.localMonitor := by
  induction vs generalizing s a with
  | nil => rfl
  | cons v vs ih => simp [State.storeWords, ih]
@[simp] theorem State.storeWords_coproc (a : Word) (vs : List Word) : (s.storeWords a vs).coproc = s.coproc := by
  induction vs generalizing s a with
  | nil => rfl
  | cons v vs ih => simp [State.storeWords, ih]
@[simp] theorem State.storeWords_irqLine (a : Word) (vs : List Word) : (s.storeWords a vs).irqLine = s.irqLine := by
  induction vs generalizing s a with
  | nil => rfl
  | cons v vs ih => simp [State.storeWords, ih]
@[simp] theorem State.storeWords_fiqLine (a : Word) (vs : List Word) : (s.storeWords a vs).fiqLine = s.fiqLine := by
  induction vs generalizing s a with
  | nil => rfl
  | cons v vs ih => simp [State.storeWords, ih]
@[simp] theorem State.storeWords_abortLine (a : Word) (vs : List Word) : (s.storeWords a vs).abortLine = s.abortLine := by
  induction vs generalizing s a with
  | nil => rfl
  | cons v vs ih => simp [State.storeWords, ih]
@[simp] theorem State.storeWords_bankHazard (a : Word) (vs : List Word) : (s.storeWords a vs).bankHazard = s.bankHazard := by
  induction vs generalizing s a with
  | nil => rfl
  | cons v vs ih => simp [State.storeWords, ih]
@[simp] theorem State.storeWords_freeCount (a : Word) (vs : List Word) : (s.storeWords a vs).freeCount = s.freeCount := by
  induction vs generalizing s a with
  | nil => rfl
  | cons v vs ih => simp [State.storeWords, ih]
@[simp] theorem State.storeWords_params (a : Word) (vs : List Word) : (s.storeWords a vs).params = s.params := by
  induction vs generalizing s a with
  | nil => rfl
  | cons v vs ih => simp [State.storeWords, ih]
@[simp] theorem State.storeWords_mode (a : Word) (vs : List Word) : (s.storeWords a vs).mode = s.mode := by simp [State.mode]

@[simp] theorem State.writeRegs_pc (m : Mode) (l : List (Reg × Word)) : (s.writeRegs m l).pc = s.pc := by
  induction l generalizing s with
  | nil => rfl
  | cons x l ih => simp [State.writeRegs, ih]
@[simp] theorem State.writeRegs_cpsr (m : Mode) (l : List (Reg × Word)) : (s.writeRegs m l).cpsr = s.cpsr := by
  induction l generalizing s with
  | nil => rfl
  | cons x l ih => simp [State.writeRegs, ih]
@[simp] theorem State.writeRegs_spsr (m : Mode) (l : List (Reg × Word)) : (s.writeRegs m l).spsr = s.spsr := by
  induction l generalizing s with
  | nil => rfl
  | cons x l ih => simp [State.writeRegs, ih]
@[simp] theorem State.writeRegs_mem (m : Mode) (l : List (Reg × Word)) : (s.writeRegs m l).mem = s.mem := by
  induction l generalizing s with
  | nil => rfl
  | cons x l ih => simp [State.writeRegs, ih]
@[simp] theorem State.writeRegs_written (m : Mode) (l : List (Reg × Word)) : (s.writeRegs m l).written = s.written := by
  induction l generalizing s with
  | nil => rfl
  | cons x l ih => simp [State.writeRegs, ih]
@[simp] theorem State.writeRegs_localMonitor (m : Mode) (l : List (Reg × Word)) : (s.writeRegs m l).localMonitor = s.localMonitor := by
  induction l generalizing s with
  | nil => rfl
  | cons x l ih => simp [State.writeRegs, ih]
@[simp] theorem State.writeRegs_globalMonitor (m : Mode) (l : List (Reg × Word)) : (s.writeRegs m l).globalMonitor = s.globalMonitor := by
  induction l generalizing s with
  | nil => rfl
  | cons x l ih => simp [State.writeRegs, ih]
@[simp] theorem State.writeRegs_coproc (m : Mode) (l : List (Reg × Word)) : (s.writeRegs m l).coproc = s.coproc := by
  induction l generalizing s with
  | nil => rfl
  | cons x l ih => simp [State.writeRegs, ih]
@[simp] theorem State.writeRegs_irqLine (m : Mode) (l : List (Reg × Word)) : (s.writeRegs m l).irqLine = s.irqLine := by
  induction l generalizing s with
  | nil => rfl
  | cons x l ih => simp [State.writeRegs, ih]
@[simp] theorem State.writeRegs_fiqLine (m : Mode) (l : List (Reg × Word)) : (s.writeRegs m l).fiqLine = s.fiqLine := by
  induction l generalizing s with
  | nil => rfl
  | cons x l ih => simp [State.writeRegs, ih]
@[simp] theorem State.writeRegs_abortLine (m : Mode) (l : List (Reg × Word)) : (s.writeRegs m l).abortLine = s.abortLine := by
  induction l generalizing s with
  | nil => rfl
  | cons x l ih => simp [State.writeRegs, ih]
@[simp] theorem State.writeRegs_bankHazard (m : Mode) (l : List (Reg × Word)) : (s.writeRegs m l).bankHazard = s.bankHazard := by
  induction l generalizing s with
  | nil => rfl
  | cons x l ih => simp [State.writeRegs, ih]
@[simp] theorem State.writeRegs_freeCount (m : Mode) (l : List (Reg × Word)) : (s.writeRegs m l).freeCount = s.freeCount := by
  induction l generalizing s with
  | nil => rfl
  | cons x l ih => simp [State.writeRegs, ih]
@[simp] theorem State.writeRegs_params (m : Mode) (l : List (Reg × Word)) : (s.writeRegs m l).params = s.params := by
  induction l generalizing s with
  | nil => rfl
  | cons x l ih => simp [State.writeRegs, ih]
@[simp] theorem State.writeRegs_mode (m : Mode) (l : List (Reg × Word)) : (s.writeRegs m l).mode = s.mode := by simp [State.mode]

/-! ### The state after reset -/

@[simp] theorem State.resetWith_regs (p : Params) : (State.resetWith p).regs = RegFile.reset := rfl
@[simp] theorem State.resetWith_pc (p : Params) : (State.resetWith p).pc = resetVector p := rfl
@[simp] theorem State.resetWith_cpsr (p : Params) : (State.resetWith p).cpsr = resetCpsr p := rfl
@[simp] theorem State.resetWith_spsr (p : Params) : (State.resetWith p).spsr = SpsrFile.reset := rfl
@[simp] theorem State.resetWith_mem (p : Params) : (State.resetWith p).mem = [] := rfl
@[simp] theorem State.resetWith_written (p : Params) : (State.resetWith p).written = [] := rfl
@[simp] theorem State.resetWith_localMonitor (p : Params) : (State.resetWith p).localMonitor = none := rfl
@[simp] theorem State.resetWith_globalMonitor (p : Params) : (State.resetWith p).globalMonitor = [] := rfl
@[simp] theorem State.resetWith_coproc (p : Params) : (State.resetWith p).coproc = resetCoproc := rfl
@[simp] theorem State.resetWith_irqLine (p : Params) : (State.resetWith p).irqLine = false := rfl
@[simp] theorem State.resetWith_fiqLine (p : Params) : (State.resetWith p).fiqLine = false := rfl
@[simp] theorem State.resetWith_abortLine (p : Params) : (State.resetWith p).abortLine = false := rfl
@[simp] theorem State.resetWith_bankHazard (p : Params) : (State.resetWith p).bankHazard = .none := rfl
@[simp] theorem State.resetWith_freeCount (p : Params) : (State.resetWith p).freeCount = 0 := rfl
@[simp] theorem State.resetWith_params (p : Params) : (State.resetWith p).params = p := rfl

theorem State.setCoproc_same (s : State) (cp : BitVec 4) (u : CoprocUnit) :
    (s.setCoproc cp u).coproc[cp.toFin] = .present u := by
  simp [State.setCoproc]

end Sys2Proof.Machine
end

