-- ==== Sys2Proof/Laws/Ops.lean ====
section
/-! SUPPORT. Laws/Ops.lean: what each shared operation can do, said once. -/

namespace Sys2Proof.Machine

/-! ### Computations that may stop -/

theorem Exec.bind_ok {α β : Type} (x : Exec α) (f : α → Exec β) (b : β) :
    (x >>= f) = .ok b ↔ ∃ a, x = .ok a ∧ f a = .ok b := by
  cases x with
  | ok a => exact ⟨fun h => ⟨a, rfl, h⟩, fun ⟨a', h, h'⟩ => by cases h; exact h'⟩
  | error e => exact ⟨fun h => (by cases h), fun ⟨_, h, _⟩ => by cases h⟩

theorem Exec.bind_error {α β : Type} (x : Exec α) (f : α → Exec β) (e : Stop) :
    (x >>= f) = .error e ↔ x = .error e ∨ ∃ a, x = .ok a ∧ f a = .error e := by
  cases x with
  | ok a =>
    exact ⟨fun h => .inr ⟨a, rfl, h⟩, fun h => h.elim (fun h => by cases h) (fun ⟨a', h, h'⟩ => by cases h; exact h')⟩
  | error e' =>
    refine ⟨fun h => .inl (by cases h; rfl), fun h => ?_⟩
    rcases h with h | ⟨_, h, _⟩
    · cases h; rfl
    · cases h

@[simp] theorem unpredictable_ne_ok {α : Type} (why : Unpredictable) (a : α) : (unpredictable why : Exec α) ≠ .ok a :=
  fun h => by cases h

theorem require_ok (b : Bool) (why : Unpredictable) : require b why = .ok () ↔ b = true := by
  cases b <;> simp [require]

@[simp] theorem require_true (why : Unpredictable) : require true why = .ok () := rfl

@[simp] theorem require_false (why : Unpredictable) : require false why = unpredictable why := rfl

theorem advance_ok (s t : State) :
    advance s = .ok t ↔ s.pc.toNat + 4 < 2 ^ 32 ∧ t = { s with pc := s.pc + 4 } := by
  unfold advance
  split
  · exact ⟨fun h => ⟨‹_›, by cases h; rfl⟩, fun h => by rw [h.2]⟩
  · exact ⟨fun h => (by cases h), fun h => absurd h.1 ‹_›⟩

theorem branchArm_ok (s t : State) (v : Word) :
    branchArm s v = .ok t ↔ v.extractLsb' 0 2 = 0 ∧ t = { s with pc := v } := by
  unfold branchArm
  split
  · exact ⟨fun h => ⟨‹_›, by cases h; rfl⟩, fun h => by rw [h.2]⟩
  · exact ⟨fun h => (by cases h), fun h => absurd h.1 ‹_›⟩

theorem branchExchange_ok (s t : State) (v : Word) :
    branchExchange s v = .ok t ↔
      v.extractLsb' 0 2 ≠ 2 ∧ t = { (s.setCpsrBit 5 (v.getLsbD 0)) with pc := v &&& 0xFFFFFFFE } := by
  unfold branchExchange
  split
  · exact ⟨fun h => (by cases h), fun h => absurd ‹_› h.1⟩
  · exact ⟨fun h => ⟨‹_›, by cases h; rfl⟩, fun h => by rw [h.2]⟩

theorem returnCpsr_ok (s t : State) (x : Word) :
    returnCpsr s x = .ok t ↔
      x &&& (psrMasks s.arch).unalloc = 0 ∧ (Mode.ofCode (psrMode x)).isSome = true ∧ t = s.setCpsr x := by
  unfold returnCpsr
  split
  · exact ⟨fun h => (by cases h), fun h => absurd h.1 ‹_›⟩
  · rename_i h0
    split
    · rename_i h1
      refine ⟨fun h => (by cases h), fun h => ?_⟩
      rw [Option.isNone_iff_eq_none] at h1
      simp [h1] at h
    · rename_i h1
      refine ⟨fun h => ⟨not_not.mp h0, ?_, by cases h; rfl⟩, fun h => by rw [h.2.2]⟩
      simpa [Option.isSome_iff_ne_none] using h1

theorem currentSpsr_ok (s : State) (v : Word) : currentSpsr s = .ok v ↔ s.spsr.get s.mode = some v := by
  unfold currentSpsr
  split
  · rename_i w h
    exact ⟨fun e => by cases e; exact h, fun e => by rw [h] at e; cases e; rfl⟩
  · rename_i h
    exact ⟨fun e => (by cases e), fun e => by rw [h] at e; cases e⟩

theorem takeException_next (e : Exception) (s t : State) :
    takeException e s = .next t ↔
      s.bankHazard ≠ .live ∧ (s.isV6 && s.params.cp15B && s.params.cp15EE) = false ∧ t = enterException e s := by
  unfold takeException
  split
  · exact ⟨fun h => (by cases h), fun h => absurd ‹_› h.1⟩
  · split
    · rename_i h1
      exact ⟨fun h => (by cases h), fun h => by rw [h.2.1] at h1; cases h1⟩
    · rename_i h0 h1
      exact ⟨fun h => ⟨h0, by simpa using h1, by cases h; rfl⟩, fun h => by rw [h.2.2]⟩

/-- When an instruction answers a next state: its body did, or it took one of its two exceptions. -/
theorem finishFrom_next (a s t : State) (body : Exec State) :
    finishFrom a s body = .next t ↔
      body = .ok t ∨ (body = .error .dataAbort ∧ takeException .dataAbort a = .next t) ∨
        (body = .error .undefinedInstruction ∧ takeException .undefinedInstruction s = .next t) := by
  cases body with
  | ok u => simp [finishFrom]
  | error e => cases e <;> simp [finishFrom]

theorem finish_next (s t : State) (body : Exec State) :
    finish s body = .next t ↔
      body = .ok t ∨ (body = .error .dataAbort ∧ takeException .dataAbort s = .next t) ∨
        (body = .error .undefinedInstruction ∧ takeException .undefinedInstruction s = .next t) :=
  finishFrom_next s s t body

theorem finish_ok {s t : State} {body : Exec State} (h : body = .ok t) : finish s body = .next t := by rw [h]; rfl

theorem conditional_pass {c : Cond} {s : State} (body : Exec State) (h : conditionPassed c s = true) :
    conditional c s body = body := by simp [conditional, h]

theorem conditional_fail {c : Cond} {s : State} (body : Exec State) (h : conditionPassed c s = false) :
    conditional c s body = advance s := by simp [conditional, h]

/-! ### Registers -/

theorem RegFile.get_set (f : RegFile) (p q : PhysReg) (v : Word) :
    (f.set p v).get q = if p = q then v else f.get q := by
  cases p <;> cases q <;> simp [RegFile.get, RegFile.set, Vector.getElem_set, Fin.ext_iff]

@[simp] theorem State.readPhys_writePhys (s : State) (p q : PhysReg) (v : Word) :
    (s.writePhys p v).readPhys q = if p = q then v else s.readPhys q := RegFile.get_set _ _ _ _

theorem State.readPhys_writeRegIn (s : State) (m : Mode) (n : Reg) (v : Word) (q : PhysReg) :
    (s.writeRegIn m n v).readPhys q = if physReg m n = some q then v else s.readPhys q := by
  unfold State.writeRegIn
  split <;> rename_i h <;> simp [h]

theorem State.readPhys_writeReg (s : State) (n : Reg) (v : Word) (q : PhysReg) :
    (s.writeReg n v).readPhys q = if physReg s.mode n = some q then v else s.readPhys q :=
  State.readPhys_writeRegIn _ _ _ _ _

theorem bankedReg_inj (m : Mode) (a b : Fin 15) (h : bankedReg m a = bankedReg m b) : a = b := by
  revert h; cases m <;> revert a b <;> decide

theorem physReg_inj (m : Mode) (a b : Reg) (p : PhysReg) (ha : physReg m a = some p) (hb : physReg m b = some p) :
    a = b := by
  unfold physReg at ha hb
  split at ha <;> split at hb <;> simp_all
  have h := bankedReg_inj m _ _ (ha.trans hb.symm)
  simp only [Fin.mk.injEq] at h
  exact BitVec.eq_of_toNat_eq h

theorem physReg_isSome (m : Mode) (n : Reg) : (physReg m n).isSome = true ↔ n ≠ 15 := by
  unfold physReg
  split
  · rename_i h
    simp only [Option.isSome_some, true_iff]
    rintro rfl; simp at h
  · rename_i h
    simp only [Option.isSome_none, Bool.false_eq_true, ne_eq, false_iff, not_not]
    have : n.toNat < 16 := n.isLt
    exact BitVec.eq_of_toNat_eq (by simp; omega)

/-- Reading a register after writing one, in one mode: R15 reads the pc, and is not written this way. -/
theorem State.readReg_writeReg (s : State) (n k : Reg) (v : Word) :
    (s.writeReg n v).readReg k = if n = k ∧ n ≠ 15 then v else s.readReg k := by
  unfold State.readReg State.readRegIn
  simp only [State.writeReg_mode, State.writeReg_pc]
  cases hk : physReg s.mode k with
  | none =>
    have h15 : k = 15 := by
      by_contra h; rw [(Option.isSome_iff_exists.mp ((physReg_isSome s.mode k).mpr h)).choose_spec] at hk; cases hk
    rw [if_neg (fun h => h.2 (h.1.trans h15))]
  | some p =>
    simp only [State.readPhys_writeReg]
    by_cases h : n = k
    · subst h
      have : n ≠ 15 := (physReg_isSome s.mode n).mp (by simp [hk])
      simp only [hk, ↓reduceIte, true_and]
      rw [if_pos this]
    · have : physReg s.mode n ≠ some p := fun e => h (physReg_inj s.mode n k p e hk)
      simp [h, this]

/-! ### Memory -/

theorem State.byteAt_putByte (s : State) (a b : Word) (v : Byte) :
    (s.putByte a v).byteAt b = if a = b then some v else s.byteAt b := by
  simp only [State.byteAt, State.putByte_mem, Memory.read_write]
  by_cases h : a = b
  · simp [h]
  · have : a.toNat ≠ b.toNat := fun e => h (BitVec.eq_of_toNat_eq e)
    simp [h, this]

/-- The bytes a store leaves alone: every address that is none of the addresses stored to. -/
theorem State.byteAt_putBytes_other (s : State) (a b : Word) (vs : List Byte)
    (h : ∀ i < vs.length, a + BitVec.ofNat 32 i ≠ b) : (s.putBytes a vs).byteAt b = s.byteAt b := by
  induction vs generalizing s a with
  | nil => rfl
  | cons v vs ih =>
    simp only [State.putBytes]
    rw [ih]
    · have := h 0 (by simp)
      rw [show BitVec.ofNat 32 0 = 0#32 from rfl, BitVec.add_zero] at this
      simp [State.byteAt_putByte, this]
    · intro i hi
      have := h (i + 1) (by simp; omega)
      rwa [show a + 1 + BitVec.ofNat 32 i = a + BitVec.ofNat 32 (i + 1) by
        rw [BitVec.ofNat_add, BitVec.add_assoc, BitVec.add_comm (BitVec.ofNat 32 i)]; rfl]

@[simp] theorem State.byteAt_clearOnStore (s : State) (a b : Word) (n : Nat) :
    (s.clearOnStore a n).byteAt b = s.byteAt b := by simp [State.byteAt]

/-- A store leaves every address alone that is none of those it stores to. -/
theorem State.byteAt_store_other (s : State) (a b : Word) (vs : List Byte)
    (h : ∀ i < vs.length, a + BitVec.ofNat 32 i ≠ b) : (s.store a vs).byteAt b = s.byteAt b := by
  simp [State.store, State.byteAt_putBytes_other s a b vs h]

theorem memByte_ok (s : State) (a : Word) (v : Byte) :
    memByte s a = .ok v ↔ s.mapped a = true ∧ s.byteAt a = some v := by
  unfold memByte
  split
  · rename_i h
    split
    · rename_i w hw; simp [h, hw]
    · rename_i hw; simp [h, hw]
  · rename_i h; simp [h]

theorem memWord_ok (s : State) (a : Word) (v : Word) :
    memWord s a = .ok v ↔ ∃ b0 b1 b2 b3, memByte s a = .ok b0 ∧ memByte s (a + 1) = .ok b1 ∧
      memByte s (a + 2) = .ok b2 ∧ memByte s (a + 3) = .ok b3 ∧ v = wordOfBytes s.bigEndianData b0 b1 b2 b3 := by
  unfold memWord
  simp only [Exec.bind_ok]
  constructor
  · rintro ⟨b0, h0, b1, h1, b2, h2, b3, h3, h⟩
    exact ⟨b0, b1, b2, b3, h0, h1, h2, h3, by cases h; rfl⟩
  · rintro ⟨b0, b1, b2, b3, h0, h1, h2, h3, rfl⟩
    exact ⟨b0, h0, b1, h1, b2, h2, b3, h3, rfl⟩

theorem memWrite_ok (s t : State) (a : Word) (vs : List Byte) :
    memWrite s a vs = .ok t ↔ s.mappedBytes a vs.length = true ∧ t = s.store a vs := by
  unfold memWrite
  split
  · rename_i h; exact ⟨fun e => ⟨h, by cases e; rfl⟩, fun e => by rw [e.2]⟩
  · rename_i h; exact ⟨fun e => (by cases e), fun e => absurd e.1 h⟩

theorem checkWords_ok (s : State) (a : Word) (n : Nat) :
    checkWords s a n = .ok () ↔ s.mappedBytes a (4 * n) = true := by
  unfold checkWords
  split <;> rename_i h <;> simp [h]

/-! ### The canonical form -/

theorem State.wf_putBytes (s : State) (a : Word) (vs : List Byte) (h : Memory.wf s.mem = true) :
    Memory.wf (s.putBytes a vs).mem = true := by
  induction vs generalizing s a with
  | nil => exact h
  | cons v vs ih => exact ih _ _ (by simpa using Memory.wf_write s.mem a.toNat v h a.isLt)

theorem State.wf_store (s : State) (a : Word) (vs : List Byte) (h : Memory.wf s.mem = true) :
    Memory.wf (s.store a vs).mem = true := by
  simpa [State.store] using State.wf_putBytes s a vs h

/-- Every store of words keeps memory in its canonical form. -/
theorem State.wf_storeWords (s : State) (a : Word) (vs : List Word) (h : Memory.wf s.mem = true) :
    Memory.wf (s.storeWords a vs).mem = true := by
  induction vs generalizing s a with
  | nil => exact h
  | cons v vs ih => exact ih _ _ (State.wf_store s a _ h)

theorem State.wf_written_putBytes (s : State) (a : Word) (vs : List Byte) (h : AddrSet.wf s.written = true) :
    AddrSet.wf (s.putBytes a vs).written = true := by
  induction vs generalizing s a with
  | nil => exact h
  | cons v vs ih => exact ih _ _ (by simpa using AddrSet.wf_insert s.written a.toNat h a.isLt)

theorem State.wf_written_store (s : State) (a : Word) (vs : List Byte) (h : AddrSet.wf s.written = true) :
    AddrSet.wf (s.store a vs).written = true := by
  simpa [State.store] using State.wf_written_putBytes s a vs h

theorem State.wf_written_storeWords (s : State) (a : Word) (vs : List Word) (h : AddrSet.wf s.written = true) :
    AddrSet.wf (s.storeWords a vs).written = true := by
  induction vs generalizing s a with
  | nil => exact h
  | cons v vs ih => exact ih _ _ (State.wf_written_store s a _ h)

/-- The memory of the machine after reset is in canonical form. -/
theorem State.reset_mem_wf : Memory.wf State.reset.mem = true := rfl

end Sys2Proof.Machine
end

