-- ==== Sys2Proof/Laws/Operands.lean ====
section
/-! SUPPORT. Laws/Operands.lean: when each addressing mode, aligned access, block transfer and operand check answers, and
with what. Each lemma is an equivalence, so a caller need not unfold the operation. -/

namespace Sys2Proof.Machine

theorem Exec.pure_ok {α : Type} (a b : α) : (pure a : Exec α) = .ok b ↔ b = a :=
  ⟨fun h => by cases h; rfl, fun h => by rw [h]; rfl⟩

theorem Exec.ok_ok {α : Type} (a b : α) : (.ok a : Exec α) = .ok b ↔ b = a := Exec.pure_ok a b

theorem exists_unit (p : Unit → Prop) : (∃ u, p u) ↔ p () := ⟨fun ⟨_, h⟩ => h, fun h => ⟨(), h⟩⟩

/-- A choice that stops on one side answers only on the other. -/
theorem ite_error_ok {α : Type} (p : Prop) [Decidable p] (e : Stop) (x : Exec α) (a : α) :
    (if p then .error e else x) = .ok a ↔ ¬ p ∧ x = .ok a := by
  split <;> rename_i h <;> simp [h]

/-! ### Memory -/

theorem memHalf_ok (s : State) (a : Word) (v : Half) :
    memHalf s a = .ok v ↔ ∃ b0 b1, memByte s a = .ok b0 ∧ memByte s (a + 1) = .ok b1 ∧
      v = if s.bigEndianData then b0 ++ b1 else b1 ++ b0 := by
  simp only [memHalf, Exec.bind_ok, Exec.pure_ok]
  exact ⟨fun ⟨b0, h0, b1, h1, h⟩ => ⟨b0, b1, h0, h1, h⟩, fun ⟨b0, b1, h0, h1, h⟩ => ⟨b0, h0, b1, h1, h⟩⟩

theorem memWriteWord_ok (s t : State) (a v : Word) :
    memWriteWord s a v = .ok t ↔ s.mappedBytes a 4 = true ∧ t = s.storeWord a v := by
  have h : (wordBytes s.bigEndianData v).length = 4 := by unfold wordBytes; split <;> rfl
  rw [memWriteWord, memWrite_ok, h]
  rfl

theorem memWords_zero (s : State) (a : Word) (vs : List Word) : memWords s a 0 = .ok vs ↔ vs = [] :=
  ⟨fun h => by cases h; rfl, fun h => by rw [h]; rfl⟩

theorem memWords_succ (s : State) (a : Word) (n : Nat) (vs : List Word) :
    memWords s a (n + 1) = .ok vs ↔ ∃ w ws, memWord s a = .ok w ∧ memWords s (a + 4) n = .ok ws ∧ vs = w :: ws := by
  simp only [memWords, Exec.bind_ok, Exec.pure_ok]
  exact ⟨fun ⟨w, h, ws, h', e⟩ => ⟨w, ws, h, h', e⟩, fun ⟨w, ws, h, h', e⟩ => ⟨w, h, ws, h', e⟩⟩

/-- A block that is read gives as many words as were asked for. -/
theorem memWords_length (s : State) (n : Nat) (a : Word) (vs : List Word) (h : memWords s a n = .ok vs) :
    vs.length = n := by
  induction n generalizing a vs with
  | zero => rw [(memWords_zero s a vs).mp h]; rfl
  | succ n ih =>
    obtain ⟨w, ws, -, h', rfl⟩ := (memWords_succ s a n vs).mp h
    simp [ih _ _ h']

/-! ### Addressing modes -/

theorem checkIndexing_ok (writes : Bool) (rn : Reg) (rm : Option Reg) :
    checkIndexing writes rn rm = .ok () ↔
      rm ≠ some 15 ∧ (writes = true → rn ≠ 15) ∧ (writes = true → rm ≠ some rn) := by
  simp only [checkIndexing, Exec.bind_ok, exists_unit, require_ok]
  cases writes <;> simp

theorem address2_ok (s : State) (ix : Index2) (up : Bool) (rn : Reg) (off : Offset2) (a : Access) :
    address2 s ix up rn off = .ok a ↔
      checkIndexing (Index2.writes ix) rn (offset2Reg off) = .ok () ∧
        a = accessOf ix up (s.readReg rn) (offset2 s off) := by
  simp only [address2, Exec.bind_ok, Exec.pure_ok]
  exact ⟨fun ⟨_, h, e⟩ => ⟨h, e⟩, fun ⟨h, e⟩ => ⟨(), h, e⟩⟩

theorem index3_ok (ix : Index3) (j : Index2) :
    index3 ix = .ok j ↔ (ix = .offset ∧ j = .offset) ∨ (ix = .pre ∧ j = .pre) ∨ (ix = .post ∧ j = .post) := by
  cases ix <;> cases j <;> simp [index3]

theorem address3_ok (s : State) (ix : Index3) (up : Bool) (rn : Reg) (off : Offset3) (a : Access) :
    address3 s ix up rn off = .ok a ↔
      ∃ j, index3 ix = .ok j ∧ checkIndexing (Index2.writes j) rn (offset3Reg off) = .ok () ∧
        a = accessOf j up (s.readReg rn) (offset3 s off) := by
  simp only [address3, Exec.bind_ok, Exec.pure_ok]
  exact ⟨fun ⟨j, h, _, h', e⟩ => ⟨j, h, h', e⟩, fun ⟨j, h, h', e⟩ => ⟨j, h, (), h', e⟩⟩

theorem address5_ok (s : State) (am : Mode5) (rn : Reg) (off : BitVec 8) (a : Access) :
    address5 s am rn off = .ok a ↔
      (am.w = true → rn ≠ 15) ∧ a = (match am with
        | .offset up => ⟨indexed up (s.readReg rn) (4 * zext off), none⟩
        | .pre up => ⟨indexed up (s.readReg rn) (4 * zext off), some (indexed up (s.readReg rn) (4 * zext off))⟩
        | .post up => ⟨s.readReg rn, some (indexed up (s.readReg rn) (4 * zext off))⟩
        | .unindexed => ⟨s.readReg rn, none⟩) := by
  simp only [address5, Exec.bind_ok, exists_unit, Exec.pure_ok, require_ok]
  exact and_congr (by cases am.w <;> simp) (by cases am <;> rfl)

theorem requireNoPc_ok (rs : List Reg) : requireNoPc rs = .ok () ↔ ∀ r ∈ rs, r ≠ 15 := by
  simp [requireNoPc, require_ok]

theorem requireNotRm_ok (s : State) (dests : List Reg) (rm : Reg) :
    requireNotRm s dests rm = .ok () ↔ s.isV6 = true ∨ ∀ r ∈ dests, r ≠ rm := by
  simp [requireNotRm, require_ok]

/-! ### Alignment (R100) -/

theorem loadWord_ok (s : State) (a v : Word) :
    loadWord s a = .ok v ↔
      (low2 a = 0 ∧ memWord s a = .ok v) ∨
      (low2 a ≠ 0 ∧ s.alignA = false ∧ s.alignU = true ∧ memWord s a = .ok v) ∨
      (low2 a ≠ 0 ∧ s.alignA = false ∧ s.alignU = false ∧
        ∃ w, memWord s (wordBase a) = .ok w ∧ v = rotr w (8 * (low2 a).toNat)) := by
  have rotated : (memWord s (wordBase a) >>= fun w => (pure (rotr w (8 * (low2 a).toNat)) : Exec Word)) = .ok v ↔
      ∃ w, memWord s (wordBase a) = .ok w ∧ v = rotr w (8 * (low2 a).toNat) := by
    simp only [Exec.bind_ok, Exec.pure_ok]
  unfold loadWord
  by_cases h : low2 a = 0#2
  · simp [h]
  · cases hA : s.alignA <;> cases hU : s.alignU <;>
      simp only [BitVec.ofNat_eq_ofNat, if_neg h, rotated, Bool.false_eq_true, if_false] <;> simp [h]

theorem storeWordAddress_ok (s : State) (a b : Word) :
    storeWordAddress s a = .ok b ↔
      (low2 a = 0 ∧ b = a) ∨ (low2 a ≠ 0 ∧ s.alignA = false ∧ b = if s.alignU then a else wordBase a) := by
  unfold storeWordAddress
  by_cases h : low2 a = 0#2
  · simp [h, Exec.ok_ok, -Except.ok.injEq]
  · cases hA : s.alignA <;> cases hU : s.alignU <;> simp [h, Exec.ok_ok, -Except.ok.injEq]

theorem loadHalf_ok (s : State) (a : Word) (v : Half) :
    loadHalf s a = .ok v ↔ (a.getLsbD 0 = false ∨ (s.alignA = false ∧ s.alignU = true)) ∧ memHalf s a = .ok v := by
  unfold loadHalf
  cases h0 : a.getLsbD 0 <;> cases hA : s.alignA <;> cases hU : s.alignU <;> simp

theorem checkHalfStore_ok (s : State) (a : Word) :
    checkHalfStore s a = .ok () ↔ a.getLsbD 0 = false ∨ (s.alignA = false ∧ s.alignU = true) := by
  unfold checkHalfStore
  cases h0 : a.getLsbD 0 <;> cases hA : s.alignA <;> cases hU : s.alignU <;> simp

theorem checkDoubleAligned_ok (s : State) (a : Word) :
    checkDoubleAligned s a = .ok () ↔ doubleMisaligned s a = false := by
  unfold checkDoubleAligned
  cases hd : doubleMisaligned s a <;> cases hA : s.alignA <;> simp

theorem loadDouble_ok (s : State) (a lo hi : Word) :
    loadDouble s a = .ok (lo, hi) ↔
      doubleMisaligned s a = false ∧ s.mappedBytes a 8 = true ∧ memWord s a = .ok lo ∧ memWord s (a + 4) = .ok hi := by
  simp only [loadDouble, Exec.bind_ok, exists_unit, checkDoubleAligned_ok, checkWords_ok, Exec.pure_ok, Prod.mk.injEq]
  constructor
  · rintro ⟨hd, hm, _, hlo, _, hhi, rfl, rfl⟩
    exact ⟨hd, hm, hlo, hhi⟩
  · rintro ⟨hd, hm, hlo, hhi⟩
    exact ⟨hd, hm, _, hlo, _, hhi, rfl, rfl⟩

theorem checkExclusive_ok (s : State) (a : Word) : checkExclusive s a = .ok () ↔ low2 a = 0 := by
  unfold checkExclusive
  by_cases h : low2 a = 0#2
  · simp [h]
  · cases hA : s.alignA <;> cases hU : s.alignU <;> simp [h]

theorem swapAddress_ok (s : State) (a b : Word) :
    swapAddress s a = .ok b ↔
      (low2 a = 0 ∧ b = a) ∨ (low2 a ≠ 0 ∧ s.alignA = false ∧ s.alignU = false ∧ b = wordBase a) := by
  unfold swapAddress
  by_cases h : low2 a = 0#2
  · simp [h, Exec.ok_ok, -Except.ok.injEq]
  · cases hA : s.alignA <;> cases hU : s.alignU <;> simp [h, Exec.ok_ok, -Except.ok.injEq]

/-! ### Blocks of words (R452) -/

theorem multipleStart_ok (s : State) (a b : Word) :
    multipleStart s a = .ok b ↔
      (low2 a = 0 ∧ b = a) ∨ (low2 a ≠ 0 ∧ s.alignA = false ∧ s.alignU = false ∧ b = wordBase a) := by
  unfold multipleStart
  by_cases h : low2 a = 0#2
  · simp [h, Exec.ok_ok, -Except.ok.injEq]
  · cases hA : s.alignA <;> cases hU : s.alignU <;> simp [h, Exec.ok_ok, -Except.ok.injEq]

theorem blockStart_ok (s : State) (start b : Word) (n : Nat) :
    blockStart s start n = .ok b ↔
      multipleStart s start = .ok b ∧ b.toNat + 4 * n ≤ 2 ^ 32 ∧ s.mappedBytes b (4 * n) = true := by
  simp only [blockStart, Exec.bind_ok, exists_unit, ite_error_ok, Exec.pure_ok, checkWords_ok, not_lt]
  constructor
  · rintro ⟨a, h, hn, hm, rfl⟩
    exact ⟨h, hn, hm⟩
  · rintro ⟨h, hn, hm⟩
    exact ⟨b, h, hn, hm, rfl⟩

theorem checkList_ok (rn : Reg) (list : BitVec 16) : checkList rn list = .ok () ↔ rn ≠ 15 ∧ list ≠ 0 := by
  simp only [checkList, Exec.bind_ok, exists_unit, require_ok]
  simp

theorem loadBlock_ok (s : State) (am : Mode4) (rn : Reg) (list : BitVec 16) (vs : List Word) (base : Word) :
    loadBlock s am rn list = .ok (vs, base) ↔
      ∃ a, blockStart s (listAddress s am rn list).1 (listRegs list).length = .ok a ∧
        memWords s a (listRegs list).length = .ok vs ∧ base = (listAddress s am rn list).2 := by
  simp only [loadBlock, Exec.bind_ok, Exec.pure_ok, Prod.mk.injEq]
  constructor
  · rintro ⟨a, h, ws, hw, rfl, rfl⟩
    exact ⟨a, h, hw, rfl⟩
  · rintro ⟨a, h, hw, rfl⟩
    exact ⟨a, h, vs, hw, rfl, rfl⟩

theorem storeBlock_ok (s t : State) (am : Mode4) (rn : Reg) (list : BitVec 16) (vs : List Word) :
    storeBlock s am rn list vs = .ok t ↔
      ∃ a, blockStart s (listAddress s am rn list).1 (listRegs list).length = .ok a ∧ t = s.storeWords a vs := by
  simp only [storeBlock, Exec.bind_ok, Exec.pure_ok]

/-! ### Single transfers -/

theorem endStore_ok (s t : State) (rn : Reg) (a : Access) :
    endStore s rn a = .ok t ↔ advance (s.writeBack rn a.writeback) = .ok t := Iff.rfl

theorem loadByteTo_ok (s t : State) (rn rd : Reg) (a : Access) (extend : Byte → Word) :
    loadByteTo s rn rd a extend = .ok t ↔
      ∃ v, memByte s a.address = .ok v ∧ endLoad s rn rd a (extend v) = .ok t := by
  simp only [loadByteTo, Exec.bind_ok]

theorem storeWordFrom_ok (s t : State) (rn rd : Reg) (a : Access) :
    storeWordFrom s rn rd a = .ok t ↔
      ∃ b u, storeWordAddress s a.address = .ok b ∧ memWriteWord s b (s.storedReg s.mode rd) = .ok u ∧
        endStore u rn a = .ok t := by
  simp only [storeWordFrom, Exec.bind_ok]
  exact ⟨fun ⟨b, h, u, h', e⟩ => ⟨b, u, h, h', e⟩, fun ⟨b, u, h, h', e⟩ => ⟨b, h, u, h', e⟩⟩

/-! ### Coprocessors (R536) -/

theorem askCoproc_ok (s : State) (cp : BitVec 4) (w : Word) (u : CoprocUnit) (n : Nat) :
    askCoproc s cp w = .ok (u, n) ↔ s.coproc[cp.toFin] = .present u ∧ u.words (psrMode s.cpsr) w = some n := by
  unfold askCoproc
  split
  · rename_i h; simp [h]
  · rename_i u' h
    split
    · rename_i hn
      simp only [h, Coproc.present.injEq, reduceCtorEq, false_iff, not_and]
      rintro rfl; simp [hn]
    · rename_i m hn
      simp only [h, Except.ok.injEq, Prod.mk.injEq]
      constructor
      · rintro ⟨rfl, rfl⟩; exact ⟨rfl, hn⟩
      · rintro ⟨e, e'⟩; cases e; rw [hn] at e'; cases e'; exact ⟨rfl, rfl⟩

/-- What `askCoproc` answers when it turns the word away. -/
theorem askCoproc_error (s : State) (cp : BitVec 4) (w : Word) (e : Stop) :
    askCoproc s cp w = .error e ↔
      (s.coproc[cp.toFin] = .absent ∧ e = absentCoproc s cp) ∨
      (∃ u, s.coproc[cp.toFin] = .present u ∧ u.words (psrMode s.cpsr) w = none ∧ e = .undefinedInstruction) := by
  unfold askCoproc
  split
  · next h => simp [h, eq_comm]
  · next u h => cases hw : u.words (psrMode s.cpsr) w <;> simp [h, hw, eq_comm]

end Sys2Proof.Machine
end

