-- ==== Sys2Proof/Tests/Slice0.lean ====
section
/-! SUPPORT. Tests/Slice0.lean: the model's own tests. Expected values come from the spec: the encodings of the opcode
table and the vectors of 95 to 98. The last part shows, for each statement with hypotheses, a state and operands that
meet them. -/

namespace Sys2Proof.Tests

open Sys2Proof Sys2Proof.Machine

/-! ### The terms WellFormed refuses -/

theorem test_illformed_mov : (Instr.mov .al false 0 (.shiftImm 0 .lsl 1)).WellFormed .v6 = false := by decide
theorem test_wellformed_mov_v5 : (Instr.mov .al false 0 (.shiftImm 0 .lsl 1)).WellFormed .v5T = true := by decide
theorem test_wellformed_movs : (Instr.mov .al true 0 (.shiftImm 0 .lsl 1)).WellFormed .v6 = true := by decide
theorem test_illformed_smlad : (Instr.smlad .al 0 15 1 false 2).WellFormed .v6 = false := by decide
theorem test_illformed_smlsd : (Instr.smlsd .al 0 15 1 false 2).WellFormed .v6 = false := by decide
theorem test_illformed_smmla : (Instr.smmla .al 0 15 1 false 2).WellFormed .v6 = false := by decide
theorem test_illformed_usada8 : (Instr.usada8 .al 0 15 1 2).WellFormed .v6 = false := by decide
theorem test_illformed_sxtab : (Instr.sxtab .al 15 0 0 1).WellFormed .v6 = false := by decide
theorem test_illformed_sxtab16 : (Instr.sxtab16 .al 15 0 0 1).WellFormed .v6 = false := by decide
theorem test_illformed_sxtah : (Instr.sxtah .al 15 0 0 1).WellFormed .v6 = false := by decide
theorem test_illformed_uxtab : (Instr.uxtab .al 15 0 0 1).WellFormed .v6 = false := by decide
theorem test_illformed_uxtab16 : (Instr.uxtab16 .al 15 0 0 1).WellFormed .v6 = false := by decide
theorem test_illformed_uxtah : (Instr.uxtah .al 15 0 0 1).WellFormed .v6 = false := by decide

/-! ### Small states -/

/-- A word placed in memory, little-endian. -/
def putWord (s : State) (a v : Nat) : State :=
  { s with mem := (List.range 4).foldl (fun m k => Memory.write m (a + k) (BitVec.ofNat 8 (v >>> (8 * k)))) s.mem }

/-- The start of a vector (95 part 0): ARMv6, at 0x8000, with the CPSR, registers, SPSRs and words given. -/
def start (cpsr : Word) (regs : List (PhysReg × Word)) (spsrs : List (Mode × Word)) (words : List (Nat × Nat)) : State :=
  let s := { State.reset with cpsr := cpsr, pc := 0x8000 }
  let s := regs.foldl (fun s p => s.writePhys p.1 p.2) s
  let s := { s with spsr := spsrs.foldl (fun f p => f.set p.1 p.2) s.spsr }
  words.foldl (fun s p => putWord s p.1 p.2) s

/-- One step of the instruction word `w`. -/
def runWord (s : State) (w : Nat) : Out := step (s.withFetchWord 32 w)

/-- Whether memory holds a word, little-endian. -/
def hasWord (s : State) (a v : Nat) : Bool :=
  (List.range 4).all (fun k => Memory.read s.mem (a + k) == some (BitVec.ofNat 8 (v >>> (8 * k))))

/-- Whether an outcome is a next state with this CPSR and pc, and these registers, SPSRs, words and bytes. -/
def leaves (o : Out) (cpsr pc : Word) (regs : List (PhysReg × Word)) (spsrs : List (Mode × Word))
    (words : List (Nat × Nat)) (bytes : List (Nat × Byte)) : Bool :=
  match o with
  | .next t =>
    t.cpsr == cpsr && t.pc == pc && regs.all (fun p => t.readPhys p.1 == p.2) &&
      spsrs.all (fun p => t.spsr.get p.1 == some p.2) && words.all (fun p => hasWord t p.1 p.2) &&
      bytes.all (fun p => Memory.read t.mem p.1 == some p.2)
  | .fault _ => false
  | .refused _ => false

/-- Whether an outcome is this fault. -/
def faultsAs (o : Out) (f : Fault) : Bool :=
  match o with
  | .fault g => f == g
  | .next _ => false
  | .refused _ => false

/-- Whether an outcome is this refusal. -/
def refusesAs (o : Out) (r : Refusal) : Bool :=
  match o with
  | .refused q => r == q
  | .next _ => false
  | .fault _ => false

/-- Whether an outcome is a next state. -/
def goesNext (o : Out) : Bool :=
  match o with
  | .next _ => true
  | .fault _ => false
  | .refused _ => false

theorem next_of_goesNext {o : Out} (h : goesNext o = true) : ∃ t, o = .next t := by
  cases o with
  | next t => exact ⟨t, rfl⟩
  | fault f => simp [goesNext] at h
  | refused r => simp [goesNext] at h

/-! ### Decoding: one word of every instruction, its bits written out from the row of 50_opcode_table that encodes it -/

/-- The 18 instructions of 40_data_processing. -/
theorem test_decode_data_processing :
    ∀ p ∈ ([
      (0b0010_0000_1011_0001_0010_1001_1010_0101, .adc .cs true 1 2 (.shiftImm 0x13 .lsr 5)),
      (0b0011_0000_1000_0001_0010_1001_0101_0101, .add .cc false 1 2 (.shiftReg 9 .asr 5)),
      (0b1000_0000_0001_0001_0010_1001_1110_0101, .and .hi true 1 2 (.shiftImm 0x13 .ror 5)),
      (0b1010_0001_1101_0001_0010_1001_1010_0101, .bic .ge true 1 2 (.shiftImm 0x13 .lsr 5)),
      (0b0111_0001_0110_1111_0010_1111_0001_0101, .clz .vc 2 5),
      (0b0001_0001_0111_0001_0000_1001_1110_0101, .cmn .ne 1 (.shiftImm 0x13 .ror 5)),
      (0b0010_0011_0101_0001_0000_0110_1100_0100, .cmp .cs 1 (.imm 6 0xC4)),
      (0b1000_0001_1010_0000_0010_0000_0000_0101, .cpy .hi 2 5),
      (0b1001_0000_0011_0001_0010_1001_1110_0101, .eor .ls true 1 2 (.shiftImm 0x13 .ror 5)),
      (0b1110_0001_1011_0000_0010_1001_1110_0101, .mov .al true 2 (.shiftImm 0x13 .ror 5)),
      (0b1000_0011_1110_0000_0010_0110_1100_0100, .mvn .hi false 2 (.imm 6 0xC4)),
      (0b1001_0001_1001_0001_0010_1001_1010_0101, .orr .ls true 1 2 (.shiftImm 0x13 .lsr 5)),
      (0b1101_0000_0111_0001_0010_1001_1110_0101, .rsb .le true 1 2 (.shiftImm 0x13 .ror 5)),
      (0b0000_0010_1110_0001_0010_0110_1100_0100, .rsc .eq false 1 2 (.imm 6 0xC4)),
      (0b0101_0010_1100_0001_0010_0110_1100_0100, .sbc .pl false 1 2 (.imm 6 0xC4)),
      (0b1110_0000_0100_0001_0010_1001_0101_0101, .sub .al false 1 2 (.shiftReg 9 .asr 5)),
      (0b1001_0011_0011_0001_0000_0110_1100_0100, .teq .ls 1 (.imm 6 0xC4)),
      (0b1010_0001_0001_0001_0000_1001_1010_0101, .tst .ge 1 (.shiftImm 0x13 .lsr 5))
    ] : List (Word × Instr)), decode .v6 p.1 = .instr p.2 := by decide

/-- The 6 instructions of 44_branch. -/
theorem test_decode_branch :
    ∀ p ∈ ([
      (0b1001_1010_1000_0001_0010_0011_0100_1001, .b .ls 0x812349),
      (0b1101_1011_1000_0001_0010_0011_0100_1100, .bl .le 0x81234c),
      (0b1111_1011_1000_0001_0010_0011_0100_1101, .blx1 true 0x81234d),
      (0b1110_0001_0010_1111_1111_1111_0011_0101, .blx2 .al 5),
      (0b1011_0001_0010_1111_1111_1111_0001_0101, .bx .lt 5),
      (0b0100_0001_0010_1111_1111_1111_0010_0101, .bxj .mi 5)
    ] : List (Word × Instr)), decode .v6 p.1 = .instr p.2 := by decide

/-- The 7 instructions of 48_status_system. -/
theorem test_decode_status_and_system :
    ∀ p ∈ ([
      (0b1110_0001_0010_1010_0101_1100_0111_0011, .bkpt 0xA5C3),
      (0b1111_0001_0000_1110_0000_0001_0101_0010, .cps 3 true true false true 0x12),
      (0b0111_0001_0100_1111_0010_0000_0000_0000, .mrs .vc true 2),
      (0b0001_0011_0110_1001_1111_0110_1100_0100, .msrImm .ne true 9 6 0xC4),
      (0b0010_0001_0110_1001_1111_0000_0000_0101, .msrReg .cs true 9 5),
      (0b1111_0001_0000_0001_0000_0010_0000_0000, .setend true),
      (0b1011_1111_1010_1011_1100_1101_1110_0101, .swi .lt 0xABCDE5)
    ] : List (Word × Instr)), decode .v6 p.1 = .instr p.2 := by decide

/-- The 14 instructions of 49_coprocessor. -/
theorem test_decode_coprocessor :
    ∀ p ∈ ([
      (0b0101_1110_0101_0110_1010_0111_0110_1101, .cdp .pl 5 6 10 7 3 13),
      (0b1111_1110_0101_0110_1010_0111_0110_1101, .cdp2 5 6 10 7 3 13),
      (0b1010_1100_0111_0001_1010_0111_1001_1010, .ldc .ge (.post false) true 1 10 7 0x9A),
      (0b1111_1100_1111_0001_1010_0111_1001_1010, .ldc2 (.post true) true 1 10 7 0x9A),
      (0b1001_1110_1010_0110_0010_0111_0111_1101, .mcr .ls 5 6 2 7 3 13),
      (0b1111_1110_1010_0110_0010_0111_0111_1101, .mcr2 5 6 2 7 3 13),
      (0b1100_1100_0100_0001_0010_0111_1001_1101, .mcrr .gt 1 2 7 9 13),
      (0b1111_1100_0100_0001_0010_0111_1001_1101, .mcrr2 1 2 7 9 13),
      (0b1011_1110_1011_0110_0010_0111_0111_1101, .mrc .lt 5 6 2 7 3 13),
      (0b1111_1110_1011_0110_0010_0111_0111_1101, .mrc2 5 6 2 7 3 13),
      (0b0101_1100_0101_0001_0010_0111_1001_1101, .mrrc .pl 1 2 7 9 13),
      (0b1111_1100_0101_0001_0010_0111_1001_1101, .mrrc2 1 2 7 9 13),
      (0b0110_1100_1100_0001_1010_0111_1001_1010, .stc .vs .unindexed true 1 10 7 0x9A),
      (0b1111_1101_0100_0001_1010_0111_1001_1010, .stc2 (.offset false) true 1 10 7 0x9A)
    ] : List (Word × Instr)), decode .v6 p.1 = .instr p.2 := by decide

/-- The 7 instructions of 46_load_store_multiple. -/
theorem test_decode_load_store_multiple :
    ∀ p ∈ ([
      (0b1101_1001_0011_0001_0010_1100_0101_0001, .ldm1 .le .db true 1 0x2C51),
      (0b0000_1001_1101_0001_0010_1100_0101_0001, .ldm2 .eq .ib 1 0x2C51),
      (0b1110_1000_0111_0001_1010_1100_0101_0001, .ldm3 .al .da true 1 0x2C51),
      (0b1111_1001_0011_0001_0000_1010_0000_0000, .rfe .db true 1),
      (0b1111_1000_1110_1101_0000_0101_0001_0010, .srs .ia true 0x12),
      (0b0001_1000_1010_0001_0010_1100_0101_0001, .stm1 .ne .ia true 1 0x2C51),
      (0b0010_1001_0100_0001_0010_1100_0101_0001, .stm2 .cs .db 1 0x2C51)
    ] : List (Word × Instr)), decode .v6 p.1 = .instr p.2 := by decide

/-- The 15 instructions of 45_load_store. -/
theorem test_decode_load_store :
    ∀ p ∈ ([
      (0b1011_0101_1001_0001_0010_1010_0101_1100, .ldr .lt .offset true 1 2 (.imm 0xA5C)),
      (0b0100_0111_0111_0001_0010_1001_1100_0101, .ldrb .mi .pre false 1 2 (.reg 0x13 .asr 5)),
      (0b0101_0100_1111_0001_0010_1010_0101_1100, .ldrbt .pl true 1 2 (.imm 0xA5C)),
      (0b0110_0000_0000_0001_0010_0000_1101_0101, .ldrd .vs .post false 1 2 (.reg 5)),
      (0b0001_0000_0011_0001_0010_0000_1011_0101, .ldrh .ne .postW false 1 2 (.reg 5)),
      (0b0010_0000_1111_0001_0010_1010_1101_0110, .ldrsb .cs .postW true 1 2 (.imm 0xA6)),
      (0b0011_0001_0001_0001_0010_0000_1111_0101, .ldrsh .cc .offset false 1 2 (.reg 5)),
      (0b1000_0100_1011_0001_0010_1010_0101_1100, .ldrt .hi true 1 2 (.imm 0xA5C)),
      (0b1111_0111_0101_0001_1111_1001_1100_0101, .pld false 1 (.reg 0x13 .asr 5)),
      (0b0011_0100_1000_0001_0010_1010_0101_1100, .str .cc .post true 1 2 (.imm 0xA5C)),
      (0b1000_0111_0100_0001_0010_1001_1100_0101, .strb .hi .offset false 1 2 (.reg 0x13 .asr 5)),
      (0b1001_0100_1110_0001_0010_1010_0101_1100, .strbt .ls true 1 2 (.imm 0xA5C)),
      (0b1010_0000_0010_0001_0010_0000_1111_0101, .strd .ge .postW false 1 2 (.reg 5)),
      (0b1101_0001_0000_0001_0010_0000_1011_0101, .strh .le .offset false 1 2 (.reg 5)),
      (0b0000_0100_1010_0001_0010_1010_0101_1100, .strt .eq true 1 2 (.imm 0xA5C))
    ] : List (Word × Instr)), decode .v6 p.1 = .instr p.2 := by decide

/-- The 4 instructions of 47_sync_swap. -/
theorem test_decode_synchronization :
    ∀ p ∈ ([
      (0b0111_0001_1001_0001_0010_1111_1001_1111, .ldrex .vc 1 2),
      (0b1100_0001_1000_0001_0010_1111_1001_0101, .strex .gt 1 2 5),
      (0b0100_0001_0000_0001_0010_0000_1001_0101, .swp .mi 1 2 5),
      (0b0101_0001_0100_0001_0010_0000_1001_0101, .swpb .pl 1 2 5)
    ] : List (Word × Instr)), decode .v6 p.1 = .instr p.2 := by decide

/-- The 21 instructions of 41_multiply. -/
theorem test_decode_multiply :
    ∀ p ∈ ([
      (0b0000_0000_0010_0010_0001_1001_1001_0101, .mla .eq false 2 1 9 5),
      (0b0011_0000_0001_0010_0000_1001_1001_0101, .mul .cc true 2 9 5),
      (0b1100_0001_0000_0010_0001_1001_1010_0101, .smlaxy .gt 2 1 9 false true 5),
      (0b1101_0111_0000_0010_0001_1001_0011_0101, .smlad .le 2 1 9 true 5),
      (0b0000_0000_1111_1100_0011_1001_1001_0101, .smlal .eq true 12 3 9 5),
      (0b1110_0001_0100_1100_0011_1001_1010_0101, .smlalxy .al 12 3 9 false true 5),
      (0b1011_0111_0100_1100_0011_1001_0011_0101, .smlald .lt 12 3 9 true 5),
      (0b0100_0001_0010_0010_0001_1001_1000_0101, .smlawy .mi 2 1 9 false 5),
      (0b0101_0111_0000_0010_0001_1001_0111_0101, .smlsd .pl 2 1 9 true 5),
      (0b0110_0111_0100_1100_0011_1001_0111_0101, .smlsld .vs 12 3 9 true 5),
      (0b0111_0111_0101_0010_0001_1001_0011_0101, .smmla .vc 2 1 9 true 5),
      (0b0001_0111_0101_0010_0001_1001_1111_0101, .smmls .ne 2 1 9 true 5),
      (0b0010_0111_0101_0010_1111_1001_0011_0101, .smmul .cs 2 9 true 5),
      (0b0011_0111_0000_0010_1111_1001_0011_0101, .smuad .cc 2 9 true 5),
      (0b1000_0001_0110_0010_0000_1001_1010_0101, .smulxy .hi 2 9 false true 5),
      (0b1001_0000_1100_1100_0011_1001_1001_0101, .smull .ls false 12 3 9 5),
      (0b1010_0001_0010_0010_0000_1001_1010_0101, .smulwy .ge 2 9 false 5),
      (0b1100_0111_0000_0010_1111_1001_0111_0101, .smusd .gt 2 9 true 5),
      (0b0001_0000_0100_1100_0011_1001_1001_0101, .umaal .ne 12 3 9 5),
      (0b0010_0000_1010_1100_0011_1001_1001_0101, .umlal .cs false 12 3 9 5),
      (0b0011_0000_1001_1100_0011_1001_1001_0101, .umull .cc true 12 3 9 5)
    ] : List (Word × Instr)), decode .v6 p.1 = .instr p.2 := by decide

/-- The 30 instructions of 43_saturate_pack_extend and the rest of the media space. -/
theorem test_decode_media :
    ∀ p ∈ ([
      (0b1010_0110_1000_0001_0010_1001_1001_0101, .pkhbt .ge 1 2 0x13 5),
      (0b1100_0110_1000_0001_0010_1001_1101_0101, .pkhtb .gt 1 2 0x13 5),
      (0b0000_0001_0000_0001_0010_0000_0101_0101, .qadd .eq 1 2 5),
      (0b0101_0001_0100_0001_0010_0000_0101_0101, .qdadd .pl 1 2 5),
      (0b0110_0001_0110_0001_0010_0000_0101_0101, .qdsub .vs 1 2 5),
      (0b0111_0001_0010_0001_0010_0000_0101_0101, .qsub .vc 1 2 5),
      (0b1000_0110_1011_1111_0010_1111_0011_0101, .rev .hi 2 5),
      (0b1001_0110_1011_1111_0010_1111_1011_0101, .rev16 .ls 2 5),
      (0b1010_0110_1111_1111_0010_1111_1011_0101, .revsh .ge 2 5),
      (0b0000_0110_1011_0110_0010_1001_1101_0101, .ssat .eq 0x16 2 0x13 true 5),
      (0b1110_0110_1010_1011_0010_1111_0011_0101, .ssat16 .al 0xb 2 5),
      (0b0110_0110_1010_0001_0010_1000_0111_0101, .sxtab .vs 1 2 2 5),
      (0b0111_0110_1000_0001_0010_1000_0111_0101, .sxtab16 .vc 1 2 2 5),
      (0b0001_0110_1011_0001_0010_1000_0111_0101, .sxtah .ne 1 2 2 5),
      (0b0010_0110_1010_1111_0010_1000_0111_0101, .sxtb .cs 2 2 5),
      (0b0011_0110_1000_1111_0010_1000_0111_0101, .sxtb16 .cc 2 2 5),
      (0b1000_0110_1011_1111_0010_1000_0111_0101, .sxth .hi 2 2 5),
      (0b1110_0111_1000_0010_1111_1001_0001_0101, .usad8 .al 2 9 5),
      (0b1011_0111_1000_0010_0001_1001_0001_0101, .usada8 .lt 2 1 9 5),
      (0b0100_0110_1111_0110_0010_1001_1101_0101, .usat .mi 0x16 2 0x13 true 5),
      (0b0101_0110_1110_1011_0010_1111_0011_0101, .usat16 .pl 0xb 2 5),
      (0b0110_0110_0101_0001_0010_1111_0111_0101, .usub16 .vs 1 2 5),
      (0b0111_0110_0101_0001_0010_1111_1111_0101, .usub8 .vc 1 2 5),
      (0b0001_0110_0101_0001_0010_1111_0101_0101, .usubaddx .ne 1 2 5),
      (0b0010_0110_1110_0001_0010_1000_0111_0101, .uxtab .cs 1 2 2 5),
      (0b0011_0110_1100_0001_0010_1000_0111_0101, .uxtab16 .cc 1 2 2 5),
      (0b1000_0110_1111_0001_0010_1000_0111_0101, .uxtah .hi 1 2 2 5),
      (0b1001_0110_1110_1111_0010_1000_0111_0101, .uxtb .ls 2 2 5),
      (0b1010_0110_1100_1111_0010_1000_0111_0101, .uxtb16 .ge 2 2 5),
      (0b1100_0110_1111_1111_0010_1000_0111_0101, .uxth .gt 2 2 5)
    ] : List (Word × Instr)), decode .v6 p.1 = .instr p.2 := by decide

/-- The 34 instructions of 42_parallel_addsub. -/
theorem test_decode_parallel :
    ∀ p ∈ ([
      (0b1110_0110_0010_0001_0010_1111_0001_0101, .qadd16 .al 1 2 5),
      (0b1011_0110_0010_0001_0010_1111_1001_0101, .qadd8 .lt 1 2 5),
      (0b0100_0110_0010_0001_0010_1111_0011_0101, .qaddsubx .mi 1 2 5),
      (0b0001_0110_0010_0001_0010_1111_0111_0101, .qsub16 .ne 1 2 5),
      (0b0010_0110_0010_0001_0010_1111_1111_0101, .qsub8 .cs 1 2 5),
      (0b0011_0110_0010_0001_0010_1111_0101_0101, .qsubaddx .cc 1 2 5),
      (0b1110_0110_0001_0001_0010_1111_0001_0101, .sadd16 .al 1 2 5),
      (0b1011_0110_0001_0001_0010_1111_1001_0101, .sadd8 .lt 1 2 5),
      (0b0100_0110_0001_0001_0010_1111_0011_0101, .saddsubx .mi 1 2 5),
      (0b0110_0110_1000_0001_0010_1111_1011_0101, .sel .vs 1 2 5),
      (0b0001_0110_0011_0001_0010_1111_0001_0101, .shadd16 .ne 1 2 5),
      (0b0010_0110_0011_0001_0010_1111_1001_0101, .shadd8 .cs 1 2 5),
      (0b0011_0110_0011_0001_0010_1111_0011_0101, .shaddsubx .cc 1 2 5),
      (0b1000_0110_0011_0001_0010_1111_0111_0101, .shsub16 .hi 1 2 5),
      (0b1001_0110_0011_0001_0010_1111_1111_0101, .shsub8 .ls 1 2 5),
      (0b1010_0110_0011_0001_0010_1111_0101_0101, .shsubaddx .ge 1 2 5),
      (0b1011_0110_0001_0001_0010_1111_0111_0101, .ssub16 .lt 1 2 5),
      (0b0100_0110_0001_0001_0010_1111_1111_0101, .ssub8 .mi 1 2 5),
      (0b0101_0110_0001_0001_0010_1111_0101_0101, .ssubaddx .pl 1 2 5),
      (0b1100_0110_0101_0001_0010_1111_0001_0101, .uadd16 .gt 1 2 5),
      (0b1101_0110_0101_0001_0010_1111_1001_0101, .uadd8 .le 1 2 5),
      (0b0000_0110_0101_0001_0010_1111_0011_0101, .uaddsubx .eq 1 2 5),
      (0b1110_0110_0111_0001_0010_1111_0001_0101, .uhadd16 .al 1 2 5),
      (0b1011_0110_0111_0001_0010_1111_1001_0101, .uhadd8 .lt 1 2 5),
      (0b0100_0110_0111_0001_0010_1111_0011_0101, .uhaddsubx .mi 1 2 5),
      (0b0101_0110_0111_0001_0010_1111_0111_0101, .uhsub16 .pl 1 2 5),
      (0b0110_0110_0111_0001_0010_1111_1111_0101, .uhsub8 .vs 1 2 5),
      (0b0111_0110_0111_0001_0010_1111_0101_0101, .uhsubaddx .vc 1 2 5),
      (0b1000_0110_0110_0001_0010_1111_0001_0101, .uqadd16 .hi 1 2 5),
      (0b1001_0110_0110_0001_0010_1111_1001_0101, .uqadd8 .ls 1 2 5),
      (0b1010_0110_0110_0001_0010_1111_0011_0101, .uqaddsubx .ge 1 2 5),
      (0b1100_0110_0110_0001_0010_1111_0111_0101, .uqsub16 .gt 1 2 5),
      (0b1101_0110_0110_0001_0010_1111_1111_0101, .uqsub8 .le 1 2 5),
      (0b0000_0110_0110_0001_0010_1111_0101_0101, .uqsubaddx .eq 1 2 5)
    ] : List (Word × Instr)), decode .v6 p.1 = .instr p.2 := by decide

/-! ### One step of each instruction: rows of the test vectors of 96, 97 and 98, and the examples of 95 -/

theorem test_adc : leaves (runWord (start 0x20000013 [(.usr 0, 0x80000001)] [] []) 0xe0b00000)
    0x30000013 0x8004 [(.usr 0, 0x3)] [] [] [] = true := by decide
theorem test_add : leaves (runWord (start 0x13 [(.usr 1, 0x7fffffff), (.usr 2, 0x1)] [] []) 0xe0910002)
    0x90000013 0x8004 [(.usr 0, 0x80000000)] [] [] [] = true := by decide
theorem test_and : leaves (runWord (start 0x10000013 [(.usr 1, 0xffffffff), (.usr 2, 0x80000000)] [] []) 0xe0110082)
    0x70000013 0x8004 [(.usr 0, 0x0)] [] [] [] = true := by decide
theorem test_b : leaves (runWord (start 0x13 [] [] []) 0xea000002)
    0x13 0x8010 [] [] [] [] = true := by decide
theorem test_bic : leaves (runWord (start 0x13 [(.usr 1, 0xffffffff)] [] []) 0xe3d104ff)
    0x20000013 0x8004 [(.usr 0, 0xffffff)] [] [] [] = true := by decide
theorem test_bkpt : leaves (runWord (start 0x10 [] [] []) 0xe12abc7d)
    0x197 0xc [(.abt 1, 0x8004)] [(.abt, 0x10)] [] [] = true := by decide
theorem test_bl : leaves (runWord (start 0x13 [] [] []) 0xeb7fffff)
    0x13 0x2008004 [(.svc 1, 0x8004)] [] [] [] = true := by decide
theorem test_blx1 : leaves (runWord (start 0x13 [] [] []) 0xfb000002)
    0x33 0x8012 [(.svc 1, 0x8004)] [] [] [] = true := by decide
theorem test_blx2 : leaves (runWord (start 0x13 [(.usr 1, 0x9001)] [] []) 0xe12fff31)
    0x33 0x9000 [(.svc 1, 0x8004)] [] [] [] = true := by decide
theorem test_bx : leaves (runWord (start 0x13 [(.usr 1, 0x9001)] [] []) 0xe12fff11)
    0x33 0x9000 [] [] [] [] = true := by decide
theorem test_bxj : leaves (runWord (start 0x13 [(.usr 1, 0x9001)] [] []) 0xe12fff21)
    0x33 0x9000 [] [] [] [] = true := by decide
theorem test_cdp : leaves (runWord (start 0x10 [] [] []) 0xee1327a4)
    0x9b 0x4 [(.und 1, 0x8004)] [(.und, 0x10)] [] [] = true := by decide
theorem test_cdp2 : leaves (runWord (start 0x13 [] [] []) 0xfe1327a4)
    0x9b 0x4 [(.und 1, 0x8004)] [(.und, 0x13)] [] [] = true := by decide
theorem test_clz : leaves (runWord (start 0x13 [(.usr 1, 0x0)] [] []) 0xe16f0f11)
    0x13 0x8004 [(.usr 0, 0x20)] [] [] [] = true := by decide
theorem test_cmn : leaves (runWord (start 0x13 [(.usr 1, 0x0)] [] []) 0xe3710000)
    0x40000013 0x8004 [] [] [] [] = true := by decide
theorem test_cmp : leaves (runWord (start 0x13 [(.usr 1, 0x0)] [] []) 0xe3510000)
    0x60000013 0x8004 [] [] [] [] = true := by decide
theorem test_cps : leaves (runWord (start 0x1d3 [] [] []) 0xf10a011f)
    0xdf 0x8004 [] [] [] [] = true := by decide
theorem test_cpy : leaves (runWord (start 0x13 [(.svc 1, 0x8004)] [] []) 0xe1a0f00e)
    0x13 0x8004 [] [] [] [] = true := by decide
theorem test_eor : leaves (runWord (start 0x13 [(.usr 1, 0xffff0000), (.usr 2, 0xffff)] [] []) 0xe0310002)
    0x80000013 0x8004 [(.usr 0, 0xffffffff)] [] [] [] = true := by decide
theorem test_ldc : leaves (runWord (start 0x13 [(.usr 1, 0x1000)] [] []) 0xed912704)
    0x9b 0x4 [(.und 1, 0x8004)] [(.und, 0x13)] [] [] = true := by decide
theorem test_ldc2 : leaves (runWord (start 0x13 [(.usr 1, 0x1000)] [] []) 0xfd912704)
    0x9b 0x4 [(.und 1, 0x8004)] [(.und, 0x13)] [] [] = true := by decide
theorem test_ldm1 : leaves (runWord (start 0x13 [(.svc 0, 0x1000)] [] [(0x1000, 0x7), (0x1004, 0x9001)]) 0xe8bd8001)
    0x33 0x9000 [(.usr 0, 0x7), (.svc 0, 0x1008)] [] [] [] = true := by decide
theorem test_ldm2 : leaves (runWord (start 0x11 [(.fiq 0, 0x1000), (.usr 13, 0x0), (.usr 14, 0x0)] [] [(0x1000, 0x11223344), (0x1004, 0x55667788), (0x1008, 0x99aabbcc), (0x100c, 0xddeeff00)]) 0xe8d86000)
    0x11 0x8004 [(.usr 13, 0x11223344), (.usr 14, 0x55667788)] [] [] [] = true := by decide
theorem test_ldm3 : leaves (runWord (start 0x92 [(.irq 0, 0x1000)] [(.irq, 0x60000010)] [(0x1000, 0x7), (0x1004, 0x9000)]) 0xe8fd8001)
    0x60000010 0x9000 [(.usr 0, 0x7), (.irq 0, 0x1008)] [] [] [] = true := by decide
theorem test_ldr : leaves (runWord (start 0x13 [(.usr 1, 0x1000)] [] [(0x1000, 0x9001)]) 0xe591f000)
    0x33 0x9000 [] [] [] [] = true := by decide
theorem test_ldrb : leaves (runWord (start 0x13 [(.usr 1, 0x100b)] [] [(0x1000, 0x11223344), (0x1004, 0x55667788), (0x1008, 0x99aabbcc), (0x100c, 0xddeeff00)]) 0xe4510001)
    0x13 0x8004 [(.usr 0, 0x99), (.usr 1, 0x100a)] [] [] [] = true := by decide
theorem test_ldrbt : leaves (runWord (start 0x13 [(.usr 1, 0x1003), (.usr 2, 0x1)] [] [(0x1000, 0x11223344), (0x1004, 0x55667788), (0x1008, 0x99aabbcc), (0x100c, 0xddeeff00)]) 0xe6f10002)
    0x13 0x8004 [(.usr 0, 0x11), (.usr 1, 0x1004)] [] [] [] = true := by decide
theorem test_ldrd : leaves (runWord (start 0x13 [(.usr 1, 0x1000)] [] [(0x1000, 0x11223344), (0x1004, 0x55667788), (0x1008, 0x99aabbcc), (0x100c, 0xddeeff00)]) 0xe1e120d8)
    0x13 0x8004 [(.usr 1, 0x1008), (.usr 2, 0x99aabbcc), (.usr 3, 0xddeeff00)] [] [] [] = true := by decide
theorem test_ldrh : leaves (runWord (start 0x13 [(.usr 1, 0x1000), (.usr 2, 0x8)] [] [(0x1000, 0x11223344), (0x1004, 0x55667788), (0x1008, 0x99aabbcc), (0x100c, 0xddeeff00)]) 0xe1b100b2)
    0x13 0x8004 [(.usr 0, 0xbbcc), (.usr 1, 0x1008)] [] [] [] = true := by decide
theorem test_ldrsb : leaves (runWord (start 0x13 [(.usr 1, 0x1008)] [] [(0x1000, 0x11223344), (0x1004, 0x55667788), (0x1008, 0x99aabbcc), (0x100c, 0xddeeff00)]) 0xe1d100d3)
    0x13 0x8004 [(.usr 0, 0xffffff99)] [] [] [] = true := by decide
theorem test_ldrsh : leaves (runWord (start 0x13 [(.usr 1, 0x1008)] [] [(0x1000, 0x11223344), (0x1004, 0x55667788), (0x1008, 0x99aabbcc), (0x100c, 0xddeeff00)]) 0xe1d100f2)
    0x13 0x8004 [(.usr 0, 0xffff99aa)] [] [] [] = true := by decide
theorem test_ldrt : leaves (runWord (start 0x13 [(.usr 1, 0x1000)] [] [(0x1000, 0x11223344), (0x1004, 0x55667788), (0x1008, 0x99aabbcc), (0x100c, 0xddeeff00)]) 0xe4b10004)
    0x13 0x8004 [(.usr 0, 0x11223344), (.usr 1, 0x1004)] [] [] [] = true := by decide
theorem test_mcr : leaves (runWord (start 0x13 [(.usr 0, 0x1)] [] []) 0xee2307b4)
    0x9b 0x4 [(.und 1, 0x8004)] [(.und, 0x13)] [] [] = true := by decide
theorem test_mcrr : leaves (runWord (start 0x13 [(.usr 0, 0x1), (.usr 1, 0x2)] [] []) 0xec410714)
    0x9b 0x4 [(.und 1, 0x8004)] [(.und, 0x13)] [] [] = true := by decide
theorem test_mcrr2 : leaves (runWord (start 0x13 [(.usr 0, 0x1), (.usr 1, 0x2)] [] []) 0xfc410714)
    0x9b 0x4 [(.und 1, 0x8004)] [(.und, 0x13)] [] [] = true := by decide
theorem test_mla : leaves (runWord (start 0x10000013 [(.usr 1, 0x2), (.usr 2, 0x3), (.usr 3, 0x7fffffff)] [] []) 0xe0303291)
    0x90000013 0x8004 [(.usr 0, 0x80000005)] [] [] [] = true := by decide
theorem test_mov : leaves (runWord (start 0x13 [] [] []) 0xe3b004ff)
    0xa0000013 0x8004 [(.usr 0, 0xff000000)] [] [] [] = true := by decide
theorem test_mrc : leaves (runWord (start 0x13 [] [] []) 0xee3307b4)
    0x9b 0x4 [(.und 1, 0x8004)] [(.und, 0x13)] [] [] = true := by decide
theorem test_mrrc : leaves (runWord (start 0x13 [] [] []) 0xec510714)
    0x9b 0x4 [(.und 1, 0x8004)] [(.und, 0x13)] [] [] = true := by decide
theorem test_mrs : leaves (runWord (start 0xa00f01d3 [] [] []) 0xe10f0000)
    0xa00f01d3 0x8004 [(.usr 0, 0xa00f01d3)] [] [] [] = true := by decide
theorem test_msrImm : leaves (runWord (start 0x8000013 [] [] []) 0xe328f20f)
    0xf0000013 0x8004 [] [] [] [] = true := by decide
theorem test_msrReg : leaves (runWord (start 0x10 [(.usr 0, 0xf80f03df)] [] []) 0xe12ff000)
    0xf80f0210 0x8004 [] [] [] [] = true := by decide
theorem test_mul : leaves (runWord (start 0x30000013 [(.usr 1, 0xffffffff), (.usr 2, 0x2)] [] []) 0xe0100291)
    0xb0000013 0x8004 [(.usr 0, 0xfffffffe)] [] [] [] = true := by decide
theorem test_mvn : leaves (runWord (start 0x60000013 [] [] []) 0xe3f00000)
    0xa0000013 0x8004 [(.usr 0, 0xffffffff)] [] [] [] = true := by decide
theorem test_orr : leaves (runWord (start 0x13 [(.usr 1, 0x0), (.usr 2, 0x80000000)] [] []) 0xe1910022)
    0x60000013 0x8004 [(.usr 0, 0x0)] [] [] [] = true := by decide
theorem test_pkhbt : leaves (runWord (start 0x13 [(.usr 1, 0xaaaa1111), (.usr 2, 0xbbbb2222)] [] []) 0xe6820011)
    0x13 0x8004 [(.usr 0, 0xaaaa2222)] [] [] [] = true := by decide
theorem test_pkhtb : leaves (runWord (start 0x13 [(.usr 1, 0xaaaa1111), (.usr 2, 0xbbbb2222)] [] []) 0xe6810852)
    0x13 0x8004 [(.usr 0, 0xaaaabbbb)] [] [] [] = true := by decide
theorem test_pld : leaves (runWord (start 0x13 [(.usr 1, 0x1000)] [] []) 0xf5d1f004)
    0x13 0x8004 [] [] [] [] = true := by decide
theorem test_qadd : leaves (runWord (start 0x13 [(.usr 1, 0x7fffffff), (.usr 2, 0x1)] [] []) 0xe1020051)
    0x8000013 0x8004 [(.usr 0, 0x7fffffff)] [] [] [] = true := by decide
theorem test_qadd16 : leaves (runWord (start 0x13 [(.usr 1, 0x7fff8000), (.usr 2, 0x1ffff)] [] []) 0xe6210f12)
    0x13 0x8004 [(.usr 0, 0x7fff8000)] [] [] [] = true := by decide
theorem test_qadd8 : leaves (runWord (start 0x13 [(.usr 1, 0x7f80ff01), (.usr 2, 0x180ff02)] [] []) 0xe6210f92)
    0x13 0x8004 [(.usr 0, 0x7f80fe03)] [] [] [] = true := by decide
theorem test_qaddsubx : leaves (runWord (start 0x13 [(.usr 1, 0x40003), (.usr 2, 0x20001)] [] []) 0xe6210f32)
    0x13 0x8004 [(.usr 0, 0x50001)] [] [] [] = true := by decide
theorem test_qdadd : leaves (runWord (start 0x13 [(.usr 1, 0x1), (.usr 2, 0x40000000)] [] []) 0xe1420051)
    0x8000013 0x8004 [(.usr 0, 0x7fffffff)] [] [] [] = true := by decide
theorem test_qdsub : leaves (runWord (start 0x13 [(.usr 1, 0x0), (.usr 2, 0x80000000)] [] []) 0xe1620051)
    0x8000013 0x8004 [(.usr 0, 0x7fffffff)] [] [] [] = true := by decide
theorem test_qsub : leaves (runWord (start 0x13 [(.usr 1, 0x80000000), (.usr 2, 0x1)] [] []) 0xe1220051)
    0x8000013 0x8004 [(.usr 0, 0x80000000)] [] [] [] = true := by decide
theorem test_qsub16 : leaves (runWord (start 0x13 [(.usr 1, 0x7fff8000), (.usr 2, 0x1ffff)] [] []) 0xe6210f72)
    0x13 0x8004 [(.usr 0, 0x7ffe8001)] [] [] [] = true := by decide
theorem test_qsub8 : leaves (runWord (start 0x13 [(.usr 1, 0x7f80ff01), (.usr 2, 0x180ff02)] [] []) 0xe6210ff2)
    0x13 0x8004 [(.usr 0, 0x7e0000ff)] [] [] [] = true := by decide
theorem test_qsubaddx : leaves (runWord (start 0x13 [(.usr 1, 0x40003), (.usr 2, 0x20001)] [] []) 0xe6210f52)
    0x13 0x8004 [(.usr 0, 0x30005)] [] [] [] = true := by decide
theorem test_rev : leaves (runWord (start 0x13 [(.usr 1, 0x11223344)] [] []) 0xe6bf0f31)
    0x13 0x8004 [(.usr 0, 0x44332211)] [] [] [] = true := by decide
theorem test_rev16 : leaves (runWord (start 0x13 [(.usr 1, 0x11223344)] [] []) 0xe6bf0fb1)
    0x13 0x8004 [(.usr 0, 0x22114433)] [] [] [] = true := by decide
theorem test_revsh : leaves (runWord (start 0x13 [(.usr 1, 0xfe80)] [] []) 0xe6ff0fb1)
    0x13 0x8004 [(.usr 0, 0xffff80fe)] [] [] [] = true := by decide
theorem test_rfe : leaves (runWord (start 0x13 [(.svc 0, 0x1ff8)] [] [(0x1ff8, 0x9000), (0x1ffc, 0x60000010)]) 0xf8bd0a00)
    0x60000010 0x9000 [(.svc 0, 0x2000)] [] [] [] = true := by decide
theorem test_rsb : leaves (runWord (start 0x13 [(.usr 1, 0x80000000)] [] []) 0xe2710000)
    0x90000013 0x8004 [(.usr 0, 0x80000000)] [] [] [] = true := by decide
theorem test_rsc : leaves (runWord (start 0x13 [(.usr 1, 0x1), (.usr 2, 0x3)] [] []) 0xe0f10002)
    0x20000013 0x8004 [(.usr 0, 0x1)] [] [] [] = true := by decide
theorem test_sadd16 : leaves (runWord (start 0x13 [(.usr 1, 0x40003), (.usr 2, 0x20001)] [] []) 0xe6110f12)
    0xf0013 0x8004 [(.usr 0, 0x60004)] [] [] [] = true := by decide
theorem test_sadd8 : leaves (runWord (start 0x13 [(.usr 1, 0x7f80ff01), (.usr 2, 0x180ff02)] [] []) 0xe6110f92)
    0x90013 0x8004 [(.usr 0, 0x8000fe03)] [] [] [] = true := by decide
theorem test_saddsubx : leaves (runWord (start 0x13 [(.usr 1, 0x40003), (.usr 2, 0x20001)] [] []) 0xe6110f32)
    0xf0013 0x8004 [(.usr 0, 0x50001)] [] [] [] = true := by decide
theorem test_sbc : leaves (runWord (start 0x13 [(.usr 1, 0x5), (.usr 2, 0x5)] [] []) 0xe0d10002)
    0x80000013 0x8004 [(.usr 0, 0xffffffff)] [] [] [] = true := by decide
theorem test_sel : leaves (runWord (start 0xa0013 [(.usr 1, 0xaabbccdd), (.usr 2, 0x11223344)] [] []) 0xe6810fb2)
    0xa0013 0x8004 [(.usr 0, 0xaa22cc44)] [] [] [] = true := by decide
theorem test_setend : leaves (runWord (start 0x13 [] [] []) 0xf1010200)
    0x213 0x8004 [] [] [] [] = true := by decide
theorem test_shadd16 : leaves (runWord (start 0x13 [(.usr 1, 0x7fff8000), (.usr 2, 0x1ffff)] [] []) 0xe6310f12)
    0x13 0x8004 [(.usr 0, 0x4000bfff)] [] [] [] = true := by decide
theorem test_shadd8 : leaves (runWord (start 0x13 [(.usr 1, 0x7f80ff01), (.usr 2, 0x180ff02)] [] []) 0xe6310f92)
    0x13 0x8004 [(.usr 0, 0x4080ff01)] [] [] [] = true := by decide
theorem test_shaddsubx : leaves (runWord (start 0x13 [(.usr 1, 0x7fff8000), (.usr 2, 0x1ffff)] [] []) 0xe6310f32)
    0x13 0x8004 [(.usr 0, 0x3fffbfff)] [] [] [] = true := by decide
theorem test_shsub16 : leaves (runWord (start 0x13 [(.usr 1, 0x40003), (.usr 2, 0x20001)] [] []) 0xe6310f72)
    0x13 0x8004 [(.usr 0, 0x10001)] [] [] [] = true := by decide
theorem test_shsub8 : leaves (runWord (start 0x13 [(.usr 1, 0x7f80ff01), (.usr 2, 0x180ff02)] [] []) 0xe6310ff2)
    0x13 0x8004 [(.usr 0, 0x3f0000ff)] [] [] [] = true := by decide
theorem test_shsubaddx : leaves (runWord (start 0x13 [(.usr 1, 0x7fff8000), (.usr 2, 0x1ffff)] [] []) 0xe6310f52)
    0x13 0x8004 [(.usr 0, 0x4000c000)] [] [] [] = true := by decide
theorem test_smlaxy : leaves (runWord (start 0x13 [(.usr 1, 0x7fff), (.usr 2, 0x7fff), (.usr 3, 0x7fffffff)] [] []) 0xe1003281)
    0x8000013 0x8004 [(.usr 0, 0xbfff0000)] [] [] [] = true := by decide
theorem test_smlad : leaves (runWord (start 0x13 [(.usr 1, 0x20003), (.usr 2, 0x40005), (.usr 3, 0x7fffffff)] [] []) 0xe7003211)
    0x8000013 0x8004 [(.usr 0, 0x80000016)] [] [] [] = true := by decide
theorem test_smlal : leaves (runWord (start 0x13 [(.usr 0, 0x1), (.usr 1, 0x0), (.usr 2, 0xffffffff), (.usr 3, 0x1)] [] []) 0xe0f10392)
    0x40000013 0x8004 [(.usr 0, 0x0)] [] [] [] = true := by decide
theorem test_smlalxy : leaves (runWord (start 0x13 [(.usr 0, 0xffffffff), (.usr 1, 0x0), (.usr 2, 0x1), (.usr 3, 0x1)] [] []) 0xe1410382)
    0x13 0x8004 [(.usr 0, 0x0), (.usr 1, 0x1)] [] [] [] = true := by decide
theorem test_smlald : leaves (runWord (start 0x13 [(.usr 0, 0xffffffff), (.usr 1, 0x0), (.usr 2, 0x20003), (.usr 3, 0x40005)] [] []) 0xe7410312)
    0x13 0x8004 [(.usr 0, 0x16), (.usr 1, 0x1)] [] [] [] = true := by decide
theorem test_smlawy : leaves (runWord (start 0x13 [(.usr 1, 0x7fffffff), (.usr 2, 0x7fff), (.usr 3, 0x7fffffff)] [] []) 0xe1203281)
    0x8000013 0x8004 [(.usr 0, 0xbfff7ffe)] [] [] [] = true := by decide
theorem test_smlsd : leaves (runWord (start 0x13 [(.usr 1, 0x40003), (.usr 2, 0x20001), (.usr 3, 0x64)] [] []) 0xe7003251)
    0x13 0x8004 [(.usr 0, 0x5f)] [] [] [] = true := by decide
theorem test_smlsld : leaves (runWord (start 0x13 [(.usr 0, 0x0), (.usr 1, 0x0), (.usr 2, 0x30002), (.usr 3, 0x50004)] [] []) 0xe7410352)
    0x13 0x8004 [(.usr 0, 0xfffffff9), (.usr 1, 0xffffffff)] [] [] [] = true := by decide
theorem test_smmla : leaves (runWord (start 0x13 [(.usr 1, 0x18000), (.usr 2, 0x10000), (.usr 3, 0xa)] [] []) 0xe7503211)
    0x13 0x8004 [(.usr 0, 0xb)] [] [] [] = true := by decide
theorem test_smmls : leaves (runWord (start 0x13 [(.usr 1, 0x18000), (.usr 2, 0x10000), (.usr 3, 0xa)] [] []) 0xe75032d1)
    0x13 0x8004 [(.usr 0, 0x8)] [] [] [] = true := by decide
theorem test_smmul : leaves (runWord (start 0x13 [(.usr 1, 0x40000000), (.usr 2, 0x40000000)] [] []) 0xe750f211)
    0x13 0x8004 [(.usr 0, 0x10000000)] [] [] [] = true := by decide
theorem test_smuad : leaves (runWord (start 0x13 [(.usr 1, 0x80008000), (.usr 2, 0x80008000)] [] []) 0xe700f211)
    0x8000013 0x8004 [(.usr 0, 0x80000000)] [] [] [] = true := by decide
theorem test_smulxy : leaves (runWord (start 0x13 [(.usr 1, 0xffff), (.usr 2, 0x2)] [] []) 0xe1600281)
    0x13 0x8004 [(.usr 0, 0xfffffffe)] [] [] [] = true := by decide
theorem test_smull : leaves (runWord (start 0x13 [(.usr 2, 0xffffffff), (.usr 3, 0xffffffff)] [] []) 0xe0c10392)
    0x13 0x8004 [(.usr 0, 0x1), (.usr 1, 0x0)] [] [] [] = true := by decide
theorem test_smulwy : leaves (runWord (start 0x13 [(.usr 1, 0x12345678), (.usr 2, 0x100)] [] []) 0xe12002a1)
    0x13 0x8004 [(.usr 0, 0x123456)] [] [] [] = true := by decide
theorem test_smusd : leaves (runWord (start 0x13 [(.usr 1, 0x40003), (.usr 2, 0x20001)] [] []) 0xe700f251)
    0x13 0x8004 [(.usr 0, 0xfffffffb)] [] [] [] = true := by decide
theorem test_srs : leaves (runWord (start 0x92 [(.irq 1, 0x8010), (.svc 0, 0x2000)] [(.irq, 0x60000010)] []) 0xf96d0513)
    0x92 0x8004 [(.svc 0, 0x1ff8)] [] [(0x1ff8, 0x8010), (0x1ffc, 0x60000010)] [] = true := by decide
theorem test_ssat : leaves (runWord (start 0x13 [(.usr 1, 0xc8)] [] []) 0xe6a70011)
    0x8000013 0x8004 [(.usr 0, 0x7f)] [] [] [] = true := by decide
theorem test_ssat16 : leaves (runWord (start 0x13 [(.usr 1, 0x100ff00)] [] []) 0xe6a70f31)
    0x8000013 0x8004 [(.usr 0, 0x7fff80)] [] [] [] = true := by decide
theorem test_ssub16 : leaves (runWord (start 0x13 [(.usr 1, 0x40003), (.usr 2, 0x20001)] [] []) 0xe6110f72)
    0xf0013 0x8004 [(.usr 0, 0x20002)] [] [] [] = true := by decide
theorem test_ssub8 : leaves (runWord (start 0x13 [(.usr 1, 0x7f80ff01), (.usr 2, 0x180ff02)] [] []) 0xe6110ff2)
    0xe0013 0x8004 [(.usr 0, 0x7e0000ff)] [] [] [] = true := by decide
theorem test_ssubaddx : leaves (runWord (start 0x13 [(.usr 1, 0x40003), (.usr 2, 0x20001)] [] []) 0xe6110f52)
    0xf0013 0x8004 [(.usr 0, 0x30005)] [] [] [] = true := by decide
theorem test_stc : leaves (runWord (start 0x13 [(.usr 1, 0x1000)] [] []) 0xec212704)
    0x9b 0x4 [(.und 1, 0x8004)] [(.und, 0x13)] [] [] = true := by decide
theorem test_stm1 : leaves (runWord (start 0x13 [(.usr 0, 0xa0), (.usr 1, 0xa1), (.usr 2, 0xa2), (.usr 3, 0xa3), (.usr 8, 0x1000)] [] []) 0xe8a8000f)
    0x13 0x8004 [(.usr 8, 0x1010)] [] [(0x1000, 0xa0), (0x1004, 0xa1), (0x1008, 0xa2), (0x100c, 0xa3)] [] = true := by decide
theorem test_stm2 : leaves (runWord (start 0x11 [(.fiq 0, 0x1000), (.usr 13, 0x111), (.usr 14, 0x222), (.fiq 5, 0x333), (.fiq 6, 0x444)] [] []) 0xe8c86000)
    0x11 0x8004 [] [] [(0x1000, 0x111), (0x1004, 0x222)] [] = true := by decide
theorem test_str : leaves (runWord (start 0x13 [(.usr 0, 0xaabbccdd), (.usr 1, 0x1004)] [] []) 0xe5210004)
    0x13 0x8004 [(.usr 1, 0x1000)] [] [(0x1000, 0xaabbccdd)] [] = true := by decide
theorem test_strb : leaves (runWord (start 0x13 [(.usr 0, 0xaabbccdd), (.usr 1, 0x1000)] [] []) 0xe5c10003)
    0x13 0x8004 [] [] [] [(0x1003, 0xdd)] = true := by decide
theorem test_strbt : leaves (runWord (start 0x13 [(.usr 0, 0x1ff), (.usr 1, 0x1000)] [] []) 0xe4e10001)
    0x13 0x8004 [(.usr 1, 0x1001)] [] [] [(0x1000, 0xff)] = true := by decide
theorem test_strd : leaves (runWord (start 0x13 [(.usr 1, 0x1008), (.usr 2, 0x1020304), (.usr 3, 0x5060708)] [] []) 0xe16120f8)
    0x13 0x8004 [(.usr 1, 0x1000)] [] [(0x1000, 0x1020304), (0x1004, 0x5060708)] [] = true := by decide
theorem test_strex : leaves (runWord (start 0x13 [(.usr 0, 0xcafef00d), (.usr 1, 0x1000)] [] [(0x1000, 0x11223344), (0x1004, 0x55667788), (0x1008, 0x99aabbcc), (0x100c, 0xddeeff00)]) 0xe1812f90)
    0x13 0x8004 [(.usr 2, 0x1)] [] [] [] = true := by decide
theorem test_strh : leaves (runWord (start 0x13 [(.usr 0, 0xaabbccdd), (.usr 1, 0x1000)] [] []) 0xe0c100b2)
    0x13 0x8004 [(.usr 1, 0x1002)] [] [] [(0x1000, 0xdd), (0x1001, 0xcc)] = true := by decide
theorem test_strt : leaves (runWord (start 0x13 [(.usr 0, 0x1), (.usr 1, 0x1000)] [] []) 0xe4210004)
    0x13 0x8004 [(.usr 1, 0xffc)] [] [(0x1000, 0x1)] [] = true := by decide
theorem test_sub : leaves (runWord (start 0x13 [(.usr 1, 0x2)] [] []) 0xe2511001)
    0x20000013 0x8004 [(.usr 1, 0x1)] [] [] [] = true := by decide
theorem test_swi : leaves (runWord (start 0x60000010 [] [] []) 0xef123456)
    0x60000093 0x8 [(.svc 1, 0x8004)] [(.svc, 0x60000010)] [] [] = true := by decide
theorem test_swp : leaves (runWord (start 0x13 [(.usr 1, 0x1000), (.usr 2, 0xcafef00d)] [] [(0x1000, 0x11223344), (0x1004, 0x55667788), (0x1008, 0x99aabbcc), (0x100c, 0xddeeff00)]) 0xe1010092)
    0x13 0x8004 [(.usr 0, 0x11223344)] [] [(0x1000, 0xcafef00d)] [] = true := by decide
theorem test_swpb : leaves (runWord (start 0x13 [(.usr 1, 0x1001), (.usr 2, 0xcafef00d)] [] [(0x1000, 0x11223344), (0x1004, 0x55667788), (0x1008, 0x99aabbcc), (0x100c, 0xddeeff00)]) 0xe1410092)
    0x13 0x8004 [(.usr 0, 0x33)] [] [(0x1000, 0x11220d44)] [] = true := by decide
theorem test_sxtab : leaves (runWord (start 0x13 [(.usr 1, 0x64), (.usr 2, 0xff)] [] []) 0xe6a10072)
    0x13 0x8004 [(.usr 0, 0x63)] [] [] [] = true := by decide
theorem test_sxtab16 : leaves (runWord (start 0x13 [(.usr 1, 0x10001), (.usr 2, 0xff0080)] [] []) 0xe6810072)
    0x13 0x8004 [(.usr 0, 0xff81)] [] [] [] = true := by decide
theorem test_sxtah : leaves (runWord (start 0x13 [(.usr 1, 0x1), (.usr 2, 0x80000000)] [] []) 0xe6b10872)
    0x13 0x8004 [(.usr 0, 0xffff8001)] [] [] [] = true := by decide
theorem test_sxtb : leaves (runWord (start 0x13 [(.usr 1, 0x12345680)] [] []) 0xe6af0071)
    0x13 0x8004 [(.usr 0, 0xffffff80)] [] [] [] = true := by decide
theorem test_sxtb16 : leaves (runWord (start 0x13 [(.usr 1, 0x80007f)] [] []) 0xe68f0071)
    0x13 0x8004 [(.usr 0, 0xff80007f)] [] [] [] = true := by decide
theorem test_sxth : leaves (runWord (start 0x13 [(.usr 1, 0x18000)] [] []) 0xe6bf0071)
    0x13 0x8004 [(.usr 0, 0xffff8000)] [] [] [] = true := by decide
theorem test_teq : leaves (runWord (start 0x10000013 [(.usr 1, 0x55), (.usr 2, 0x55)] [] []) 0xe1310002)
    0x50000013 0x8004 [] [] [] [] = true := by decide
theorem test_tst : leaves (runWord (start 0x13 [(.usr 1, 0x80000000)] [] []) 0xe3110102)
    0xa0000013 0x8004 [] [] [] [] = true := by decide
theorem test_uadd16 : leaves (runWord (start 0x13 [(.usr 1, 0x7fff8000), (.usr 2, 0x1ffff)] [] []) 0xe6510f12)
    0x30013 0x8004 [(.usr 0, 0x80007fff)] [] [] [] = true := by decide
theorem test_uadd8 : leaves (runWord (start 0x13 [(.usr 1, 0x7f80ff01), (.usr 2, 0x180ff02)] [] []) 0xe6510f92)
    0x60013 0x8004 [(.usr 0, 0x8000fe03)] [] [] [] = true := by decide
theorem test_uaddsubx : leaves (runWord (start 0x13 [(.usr 1, 0x7fff8000), (.usr 2, 0x1ffff)] [] []) 0xe6510f32)
    0xf0013 0x8004 [(.usr 0, 0x7ffe7fff)] [] [] [] = true := by decide
theorem test_uhadd16 : leaves (runWord (start 0x13 [(.usr 1, 0x7fff8000), (.usr 2, 0x1ffff)] [] []) 0xe6710f12)
    0x13 0x8004 [(.usr 0, 0x4000bfff)] [] [] [] = true := by decide
theorem test_uhadd8 : leaves (runWord (start 0x13 [(.usr 1, 0x7f80ff01), (.usr 2, 0x180ff02)] [] []) 0xe6710f92)
    0x13 0x8004 [(.usr 0, 0x4080ff01)] [] [] [] = true := by decide
theorem test_uhaddsubx : leaves (runWord (start 0x13 [(.usr 1, 0x7fff8000), (.usr 2, 0x1ffff)] [] []) 0xe6710f32)
    0x13 0x8004 [(.usr 0, 0xbfff3fff)] [] [] [] = true := by decide
theorem test_uhsub16 : leaves (runWord (start 0x13 [(.usr 1, 0x7fff8000), (.usr 2, 0x1ffff)] [] []) 0xe6710f72)
    0x13 0x8004 [(.usr 0, 0x3fffc000)] [] [] [] = true := by decide
theorem test_uhsub8 : leaves (runWord (start 0x13 [(.usr 1, 0x7f80ff01), (.usr 2, 0x180ff02)] [] []) 0xe6710ff2)
    0x13 0x8004 [(.usr 0, 0x3f0000ff)] [] [] [] = true := by decide
theorem test_uhsubaddx : leaves (runWord (start 0x13 [(.usr 1, 0x7fff8000), (.usr 2, 0x1ffff)] [] []) 0xe6710f52)
    0x13 0x8004 [(.usr 0, 0xc0004000)] [] [] [] = true := by decide
theorem test_umaal : leaves (runWord (start 0x13 [(.usr 0, 0x5), (.usr 1, 0x7), (.usr 2, 0x2), (.usr 3, 0x3)] [] []) 0xe0410392)
    0x13 0x8004 [(.usr 0, 0x12), (.usr 1, 0x0)] [] [] [] = true := by decide
theorem test_umlal : leaves (runWord (start 0x13 [(.usr 0, 0xffffffff), (.usr 1, 0x0), (.usr 2, 0x1), (.usr 3, 0x1)] [] []) 0xe0a10392)
    0x13 0x8004 [(.usr 0, 0x0), (.usr 1, 0x1)] [] [] [] = true := by decide
theorem test_umull : leaves (runWord (start 0x13 [(.usr 2, 0x0), (.usr 3, 0x5)] [] []) 0xe0910392)
    0x40000013 0x8004 [(.usr 0, 0x0), (.usr 1, 0x0)] [] [] [] = true := by decide
theorem test_uqadd16 : leaves (runWord (start 0x13 [(.usr 1, 0x7fff8000), (.usr 2, 0x1ffff)] [] []) 0xe6610f12)
    0x13 0x8004 [(.usr 0, 0x8000ffff)] [] [] [] = true := by decide
theorem test_uqadd8 : leaves (runWord (start 0x13 [(.usr 1, 0x7f80ff01), (.usr 2, 0x180ff02)] [] []) 0xe6610f92)
    0x13 0x8004 [(.usr 0, 0x80ffff03)] [] [] [] = true := by decide
theorem test_uqaddsubx : leaves (runWord (start 0x13 [(.usr 1, 0x7fff8000), (.usr 2, 0x1ffff)] [] []) 0xe6610f32)
    0x13 0x8004 [(.usr 0, 0xffff7fff)] [] [] [] = true := by decide
theorem test_uqsub16 : leaves (runWord (start 0x13 [(.usr 1, 0x7fff8000), (.usr 2, 0x1ffff)] [] []) 0xe6610f72)
    0x13 0x8004 [(.usr 0, 0x7ffe0000)] [] [] [] = true := by decide
theorem test_uqsub8 : leaves (runWord (start 0x13 [(.usr 1, 0x7f80ff01), (.usr 2, 0x180ff02)] [] []) 0xe6610ff2)
    0x13 0x8004 [(.usr 0, 0x7e000000)] [] [] [] = true := by decide
theorem test_uqsubaddx : leaves (runWord (start 0x13 [(.usr 1, 0x7fff8000), (.usr 2, 0x1ffff)] [] []) 0xe6610f52)
    0x13 0x8004 [(.usr 0, 0x8001)] [] [] [] = true := by decide
theorem test_usad8 : leaves (runWord (start 0x13 [(.usr 1, 0x1ff0080), (.usr 2, 0xff010100)] [] []) 0xe780f211)
    0x13 0x8004 [(.usr 0, 0x27d)] [] [] [] = true := by decide
theorem test_usada8 : leaves (runWord (start 0x13 [(.usr 1, 0xffffffff), (.usr 2, 0x0), (.usr 3, 0xffffffff)] [] []) 0xe7803211)
    0x13 0x8004 [(.usr 0, 0x3fb)] [] [] [] = true := by decide
theorem test_usat : leaves (runWord (start 0x13 [(.usr 1, 0x100)] [] []) 0xe6e80011)
    0x8000013 0x8004 [(.usr 0, 0xff)] [] [] [] = true := by decide
theorem test_usat16 : leaves (runWord (start 0x13 [(.usr 1, 0x10ffff)] [] []) 0xe6e40f31)
    0x8000013 0x8004 [(.usr 0, 0xf0000)] [] [] [] = true := by decide
theorem test_usub16 : leaves (runWord (start 0x13 [(.usr 1, 0x7fff8000), (.usr 2, 0x1ffff)] [] []) 0xe6510f72)
    0xc0013 0x8004 [(.usr 0, 0x7ffe8001)] [] [] [] = true := by decide
theorem test_usub8 : leaves (runWord (start 0x13 [(.usr 1, 0x7f80ff01), (.usr 2, 0x180ff02)] [] []) 0xe6510ff2)
    0xe0013 0x8004 [(.usr 0, 0x7e0000ff)] [] [] [] = true := by decide
theorem test_usubaddx : leaves (runWord (start 0x13 [(.usr 1, 0x7fff8000), (.usr 2, 0x1ffff)] [] []) 0xe6510f52)
    0x13 0x8004 [(.usr 0, 0x80008001)] [] [] [] = true := by decide
theorem test_uxtab : leaves (runWord (start 0x13 [(.usr 1, 0xffffffff), (.usr 2, 0x1)] [] []) 0xe6e10072)
    0x13 0x8004 [(.usr 0, 0x0)] [] [] [] = true := by decide
theorem test_uxtab16 : leaves (runWord (start 0x13 [(.usr 1, 0x1000200), (.usr 2, 0xaaffbbff)] [] []) 0xe6c10072)
    0x13 0x8004 [(.usr 0, 0x1ff02ff)] [] [] [] = true := by decide
theorem test_uxtah : leaves (runWord (start 0x13 [(.usr 1, 0x10), (.usr 2, 0xffff8000)] [] []) 0xe6f10072)
    0x13 0x8004 [(.usr 0, 0x8010)] [] [] [] = true := by decide
theorem test_uxtb : leaves (runWord (start 0x13 [(.usr 1, 0xab0000)] [] []) 0xe6ef0871)
    0x13 0x8004 [(.usr 0, 0xab)] [] [] [] = true := by decide
theorem test_uxtb16 : leaves (runWord (start 0x13 [(.usr 1, 0x12fe5680)] [] []) 0xe6cf0071)
    0x13 0x8004 [(.usr 0, 0xfe0080)] [] [] [] = true := by decide
theorem test_uxth : leaves (runWord (start 0x13 [(.usr 1, 0xab1234cd)] [] []) 0xe6ff0471)
    0x13 0x8004 [(.usr 0, 0x1234)] [] [] [] = true := by decide

/-! ### LDREX, the boundary, the stops -/

/-- 97 part 2.9: LDREX loads the word and marks its address. -/
theorem test_ldrex : leaves (runWord (start 0x13 [(.usr 1, 0x1000)] [] [(0x1000, 0x11223344)]) 0xE1910F9F)
    0x13 0x8004 [(.usr 0, 0x11223344)] [] [] [] = true := by decide

/-- R571, R585: FIQ comes before IRQ; it saves the address of the next instruction plus 4 and masks F and A. -/
theorem test_fiq_first : leaves (runWord { start 0x10 [] [] [] with fiqLine := true, irqLine := true } 0xE1A00000)
    0x1D1 0x1C [(.fiq 6, 0x8004)] [(.fiq, 0x10)] [] [] = true := by decide

/-- R630: before ARMv6 the instruction right after an LDM (2) may not use R13. -/
theorem test_hazard_stops :
    faultsAs (runWord { start 0x13 [] [] [] with
      bankHazard := .armed, params := { Params.default with arch := .v5TE } } 0xE1A0000D)
      (.unpredictable .bankedAfterUserTransfer) = true := by decide

/-- R630: an instruction that uses no banked register goes on, and the hazard is over. -/
theorem test_hazard_passes :
    leaves (runWord { start 0x13 [(.usr 1, 9)] [] [] with
      bankHazard := .armed, params := { Params.default with arch := .v5TE } } 0xE1A00001) 0x13 0x8004 [(.usr 0, 9)]
      [] [] [] = true := by decide

/-- R192 (d): a word with no row stops the machine (98 part 4.2). -/
theorem test_no_instruction :
    faultsAs (runWord (start 0x13 [] [] []) 0xE6000010) (.undefinedWord .noInstruction) = true := by decide

/-- R192 (b): a should-be-zero bit that is 1 stops the machine (98 part 4.1). -/
theorem test_should_be_zero :
    faultsAs (runWord (start 0x13 [(.usr 2, 5)] [] []) 0xE1511002) (.undefinedWord .shouldBeBits) = true := by decide

/-- R192: the cases of QADD's word before ARMv5TE (c), of MRS with a wrong bit (b), of LDRD's word with bits 11:8 = 0 (c)
and 1, which is then only MRS with wrong bits (b), and of 0xE1600090 (d) (98 parts 4.1, 4.2 and 7.2). -/
theorem test_reject_cases :
    decode .v4 0xE1020051 = .reject .notInArch ∧ decode .v4 0xE10F0001 = .reject .shouldBeBits ∧
    decode .v4 0xE10120D3 = .reject .notInArch ∧ decode .v4 0xE10121D3 = .reject .shouldBeBits ∧
    decode .v6 0xE1600090 = .reject .noInstruction := by decide

/-- R580, log entry 36: an interrupt is taken in Thumb state. -/
theorem test_irq_in_thumb : leaves (step { start 0x30 [] [] [] with irqLine := true })
    0x192 0x18 [(.irq 1, 0x8004)] [(.irq, 0x30)] [] [] = true := by decide

/-- R91: a byte nothing has written stops a load (98 part 4.3). -/
theorem test_unwritten_memory :
    faultsAs (runWord (start 0x13 [(.usr 1, 0x3000)] [] []) 0xE5910000) (.readUnwritten 0x3000) = true := by decide

/-- R128: a fetch from a byte the program has written stops (98 part 4.4). -/
theorem test_written_code :
    faultsAs (step { (start 0x13 [] [] []).withFetchWord 32 0xE3A01001 with written := [0x8000] })
      (.fetchWritten 0x8000) = true := by decide

/-- R46: running past 0xFFFFFFFC stops (98 part 4.4). -/
theorem test_pc_wrap :
    faultsAs (runWord { start 0x13 [] [] [] with pc := 0xFFFFFFFC } 0xE1A00000) (.unpredictable .pcWrap) = true := by
  decide

/-- R386: the step after the T bit is set is refused. -/
theorem test_thumb_refused :
    refusesAs (runWord (start 0x33 [] [] []) 0xE1A00000) .leftArmState = true := by decide

/-- R69, R620: reset with HIVECS and CP15_EE, and before ARMv6. -/
theorem test_reset_parameters :
    (State.resetWith { Params.default with hivecs := true, cp15EE := true }).pc = 0xFFFF0000 ∧
    (State.resetWith { Params.default with hivecs := true, cp15EE := true }).cpsr = 0x3D3 ∧
    (State.resetWith { Params.default with arch := .v5TEJ, cp15EE := true }).cpsr = 0xD3 ∧
    State.reset.pc = 0 ∧ State.reset.cpsr = 0x1D3 := by decide

/-- R537: MCR p15 before ARMv6 takes the Undefined Instruction exception. -/
theorem test_mcr_p15_old :
    leaves (runWord { start 0x13 [] [] [] with params := { Params.default with arch := .v5TE } } 0xEE010F10)
      0x9B 0x4 [(.und 1, 0x8004)] [(.und, 0x13)] [] [] = true := by decide

/-- R537: at ARMv6 it is refused. -/
theorem test_mcr_p15_v6 :
    refusesAs (runWord (start 0x13 [] [] []) 0xEE010F10) (.coprocessorUndescribed 15) = true := by decide

/-- R597: a coprocessor that accepts a word in Supervisor mode only; in User mode it is Undefined. -/
theorem test_coprocessor_mode :
    goesNext (runWord { start 0x13 [] [] [] with
      coproc := resetCoproc.set 7 (.present ⟨[⟨0, 0, some 0b10011, 0⟩], []⟩) } 0xEE1327A4) = true ∧
    leaves (runWord { start 0x10 [] [] [] with
      coproc := resetCoproc.set 7 (.present ⟨[⟨0, 0, some 0b10011, 0⟩], []⟩) } 0xEE1327A4)
      0x9B 0x4 [(.und 1, 0x8004)] [(.und, 0x10)] [] [] = true := by decide

/-- R103, R414: LDRH from an odd address with U = A = 0 is UNPREDICTABLE. -/
theorem test_ldrh_odd :
    faultsAs (runWord (start 0x13 [(.usr 1, 0x1001)] [] [(0x1000, 0x11223344)]) 0xE1D100B0)
      (.unpredictable .misaligned) = true := by decide

/-- R104, R413: LDRD from an address that is a multiple of 4 but not of 8 with U = A = 0 is UNPREDICTABLE. -/
theorem test_ldrd_misaligned :
    faultsAs (runWord (start 0x13 [(.usr 1, 0x1004)] [] [(0x1004, 1), (0x1008, 2)]) 0xE1C120D0)
      (.unpredictable .misaligned) = true := by decide

/-! ### For each statement with hypotheses, a state and operands that meet them -/

/-- ARMv6 in Supervisor mode, nothing masked, U = A = 0, with data from 0x1000 on. -/
def w0 : State :=
  start 0x13 [(.usr 0, 7), (.usr 1, 0x1000), (.usr 2, 0x1008), (.usr 3, 4), (.usr 4, 0x9001), (.usr 5, 0x1002),
      (.usr 6, 0x1001), (.usr 7, 0x9000), (.usr 8, 0x9002), (.svc 0, 0x1010), (.svc 1, 0x9000), (.irq 0, 0x1008)] []
    [(0x1000, 0x9000), (0x1004, 0x10), (0x1008, 0x33445566), (0x100C, 0x9002), (0x8000, 0xE3B00001)]

/-- The same in User mode. -/
def wUser : State := { w0 with cpsr := 0x10 }

/-- The same at ARMv4T. -/
def wOld : State := { w0 with params := { Params.default with arch := .v4T } }

/-- The same with U = 1. -/
def wU : State := { w0 with params := { Params.default with cp15U := true } }

/-- The same with alignment checking. -/
def wA : State := { w0 with params := { Params.default with cp15A := true } }

/-- The same with no memory from 0x1000 to 0x1FFF. -/
def wHole : State := { w0 with params := { Params.default with unmapped := [⟨0x1000, 0x1000⟩] } }

/-- The same with Shared memory from 0x1000 to 0x1FFF, both monitors marked at 0x1000. -/
def wShared : State :=
  { w0 with
    params := { Params.default with shared := [⟨0x1000, 0x1000⟩] }
    localMonitor := some ⟨0x1000, 4⟩
    globalMonitor := [⟨0, ⟨0x1000, 4⟩⟩] }

/-- The same with a coprocessor 7 that accepts every word and moves one word by LDC and STC. -/
def wCop : State := { w0 with coproc := w0.coproc.set 7 (.present ⟨[⟨0, 0, none, 0⟩], [5]⟩) }

/-- A supervisor who will return to User mode through the SPSR: R14 holds 0x9000. -/
def wRet : State := { w0 with spsr := { w0.spsr with svc := 0x10 } }

theorem wit_DecodeEncode :
    (Instr.mov .al true 0 (.imm 0 1)).WellFormed .v6 = true ∧ (Instr.mov .al true 0 (.imm 0 1)).existsIn .v6 = true := by
  decide

theorem wit_EncodeDecode : decode .v6 0xE3B00001 = .instr (.mov .al true 0 (.imm 0 1)) := by decide

theorem wit_StepRunsDecoded :
    w0.supported ∧ w0.noInterrupt ∧ w0.inArm ∧ (∀ k < 4, (w0.pc + BitVec.ofNat 32 k).toNat ∉ w0.written) ∧
    w0.fetchedWord = some 0xE3B00001 ∧ decode w0.arch 0xE3B00001 = .instr (.mov .al true 0 (.imm 0 1)) ∧
    meetsHazard (.mov .al true 0 (.imm 0 1)) w0.wake = false :=
  ⟨⟨by decide, by decide, rfl⟩, by decide, by decide, by decide, by decide, by decide, by decide⟩

theorem wit_StepKeepsWellFormed : w0.WellFormed ∧ ∃ t, step w0 = .next t := by
  refine ⟨⟨rfl, ⟨by decide, ?_⟩, ⟨by decide, by decide⟩, ?_, ?_, ?_, ?_⟩, next_of_goesNext (by decide)⟩
  · intro m x h
    cases m <;> simp [SpsrFile.get] at h <;> subst h <;> decide
  · intro a h
    exact absurd h List.not_mem_nil
  · show ([] : List GlobalMark).length ≤ 1
    decide
  · intro _ _
    decide
  · exact ⟨by decide, fun _ => by decide⟩

theorem wit_ConditionsDecide :
    conditionPassed (instrCond (.mov .eq true 0 (.imm 0 1))) w0 = false ∧ w0.pc.toNat + 4 < 2 ^ 32 := by decide

theorem wit_UserModeLeavesOnlyByException_stays :
    psrMode wUser.cpsr = 0b10000 ∧ (∃ t, step wUser = .next t) ∧ ∀ n, PhysReg.svc 0 ≠ .usr n :=
  ⟨by decide, next_of_goesNext (by decide), by decide⟩

theorem wit_UserModeLeavesOnlyByException_leaves :
    psrMode (wUser.withFetchWord 32 0xEF000000).cpsr = 0b10000 ∧ ∃ t, step (wUser.withFetchWord 32 0xEF000000) = .next t :=
  ⟨by decide, next_of_goesNext (by decide)⟩

theorem wit_RegisterFrame :
    PhysReg.usr 1 ∉ destPhys (.mov .al true 0 (.imm 0 1)) w0 ∧ ∃ t, exec (.mov .al true 0 (.imm 0 1)) w0 = .next t :=
  ⟨by decide, next_of_goesNext (by decide)⟩

theorem wit_StatusFrame :
    (∃ t, exec (.qadd .al 0 1 2) w0 = .next t) ∧ cpsrWritten (.qadd .al 0 1 2) w0 = 0x08000000 ∧
    writesSpsr (.msrReg .al true 9 0) = true ∧ Mode.irq ≠ w0.mode ∧ ∃ t, exec (.msrReg .al true 8 0) w0 = .next t :=
  ⟨next_of_goesNext (by decide), by decide, by decide, by decide, next_of_goesNext (by decide)⟩

theorem outside_of_range {a base : Word} {n : Nat} {range : Option (Word × Nat)} (h : range = some (base, n))
    (d : ∀ k < n, a ≠ base + BitVec.ofNat 32 k) : outside a range := by
  intro b m e k hk
  rw [h] at e
  cases e
  exact d k hk

theorem wit_MemoryFrame_store :
    (∃ t, exec (.str .al .offset true 1 0 (.imm 0)) w0 = .next t) ∧
    outside 0x1004 (storeRange (.str .al .offset true 1 0 (.imm 0)) w0) :=
  ⟨next_of_goesNext (by decide), outside_of_range (base := 0x1000) (n := 4) (by decide) (by decide)⟩

theorem wit_MemoryFrame_exception :
    ∃ t, exec (.str .al .offset true 1 0 (.imm 0)) wHole = .next t ∧
      wHole.tookOne (.str .al .offset true 1 0 (.imm 0)) t :=
  ⟨enterException .dataAbort wHole, rfl, .dataAbort, by decide, rfl⟩

theorem wit_SystemFrame :
    (∃ t, exec (.cdp .al 1 0 0 7 0 0) wCop = .next t) ∧ coprocOf (.cdp .al 1 0 0 7 0 0) ≠ some 6 ∧
    (∃ t, exec (.mov .al true 0 (.imm 0 1)) w0 = .next t) ∧ writesLocalMonitor (.mov .al true 0 (.imm 0 1)) = false ∧
    storeRange (.mov .al true 0 (.imm 0 1)) w0 = none ∧ armsHazard (.mov .al true 0 (.imm 0 1)) = false ∧
    drawsFree (.mov .al true 0 (.imm 0 1)) w0 = false :=
  ⟨next_of_goesNext (by decide), by decide, next_of_goesNext (by decide), by decide, by decide, by decide, by decide⟩

theorem wit_ExceptionEntry : PhysReg.usr 0 ≠ Exception.irq.link ∧ Mode.svc ≠ Exception.irq.mode := by decide

theorem wit_SwiTaken : conditionPassed .al w0 = true ∧ w0.entryOpen := by decide

theorem wit_BkptTaken :
    ({ w0 with params := { Params.default with debugOverride := true } } : State).params.debugOverride = true ∧
    w0.params.debugOverride = false ∧ w0.entryOpen := by decide

theorem wit_ResetValues_v6 : Params.default.arch = .v6 := rfl

theorem wit_DataAborts_word :
    conditionPassed .al wA = true ∧ wA.entryOpen ∧ address2 wA .pre true 6 (.imm 0) = .ok ⟨0x1001, some 0x1001⟩ ∧
    (Index2.writes .pre = true → (0 : Reg) ≠ 6) ∧ low2 0x1001 ≠ 0 ∧ wA.alignA = true ∧
    address2 wA .post true 6 (.imm 4) = .ok ⟨0x1001, some 0x1005⟩ ∧ (0 : Reg) ≠ 6 ∧ (0 : Reg) ≠ 15 := by decide

theorem wit_DataAborts_unmapped :
    conditionPassed .al wHole = true ∧ wHole.entryOpen ∧ address2 wHole .post true 1 (.imm 4) = .ok ⟨0x1000, some 0x1004⟩ ∧
    (0 : Reg) ≠ 1 ∧ (0 : Reg) ≠ 15 ∧ wHole.mapped 0x1000 = false ∧ wHole.readAborts (0x1000 &&& 0xFFFFFFFC) 4 ∧
    low2 0x1000 = 0 ∧ wHole.mappedBytes (0x1000 &&& 0xFFFFFFFC) 4 = false := by decide

/-- U = 1 and no memory from 0x1002 on: a word or halfword at 0x1001 runs into the hole. -/
def wEdge : State :=
  { w0 with params := { Params.default with cp15U := true, unmapped := [⟨0x1002, 0x1000⟩] } }

theorem wit_DataAborts_edge :
    wEdge.entryOpen ∧ address2 wEdge .offset true 6 (.imm 0) = .ok ⟨0x1001, none⟩ ∧ wEdge.alignU = true ∧
    wEdge.mapped 0x1001 = true ∧ wEdge.readAborts 0x1001 4 ∧ wEdge.mappedBytes 0x1001 4 = false ∧
    address3 wEdge .offset true 6 (.imm 0) = .ok ⟨0x1001, none⟩ ∧ wEdge.readAborts 0x1001 2 ∧
    wEdge.mappedBytes 0x1001 2 = false := by decide

theorem wit_DataAborts_half :
    conditionPassed .al wA = true ∧ wA.entryOpen ∧ address3 wA .pre true 6 (.imm 0) = .ok ⟨0x1001, some 0x1001⟩ ∧
    (0 : Reg) ≠ 15 ∧ (Index3.writes .pre = true → (0 : Reg) ≠ 6) ∧ wA.alignA = true ∧
    (0x1001 : Word).getLsbD 0 = true ∧
    address3 wHole .pre true 5 (.imm 0) = .ok ⟨0x1002, some 0x1002⟩ ∧ (Index3.writes .pre = true → (0 : Reg) ≠ 5) ∧
    (0x1002 : Word).getLsbD 0 = false ∧ wHole.mapped 0x1002 = false ∧ wHole.readAborts 0x1002 2 ∧
    wHole.mappedBytes 0x1002 2 = false := by decide

theorem wit_DataAborts_double :
    (2 : Reg).getLsbD 0 = false ∧ (2 : Reg) ≠ 14 ∧ (Index3.writes .pre = true → (1 : Reg) ≠ 2 ∧ (1 : Reg) ≠ 2 + 1) ∧
    address3 wA .pre true 1 (.imm 4) = .ok ⟨0x1004, some 0x1004⟩ ∧ wA.alignU = false ∧ wA.alignA = true ∧
    (0x1004 : Word).toNat % 8 ≠ 0 ∧ address3 wHole .pre true 1 (.imm 0) = .ok ⟨0x1000, some 0x1000⟩ ∧
    (0x1000 : Word).toNat % 8 = 0 ∧ wHole.mappedBytes 0x1000 8 = false ∧ offsetInPair 2 (.imm 4) = false := by decide

theorem wit_DataAborts_multiple :
    conditionPassed .al wA = true ∧ wA.entryOpen ∧ (5 : Reg) ≠ 15 ∧ (1 : Reg) ≠ 15 ∧ (1 : BitVec 16) ≠ 0 ∧
    wA.blockAborts (mode4 .ia (wA.readReg 5) (4 * (listRegs 1).length)).1 (listRegs 1).length ∧
    wU.blockAborts (mode4 .ia (wU.readReg 5) (4 * (listRegs 1).length)).1 (listRegs 1).length ∧
    wHole.blockAborts (mode4 .da (wHole.readReg 1) (4 * (listRegs 1).length)).1 (listRegs 1).length ∧
    w0.mode ≠ .usr ∧ w0.mode ≠ .sys ∧ wA.mode ≠ .usr ∧ wA.mode ≠ .sys ∧ (1 : BitVec 16) = (1 : BitVec 15).setWidth 16 ∧
    wA.blockAborts (mode4 .ia (wA.readReg 5) (4 * (listRegs (1#1 ++ (0 : BitVec 15))).length)).1
      (listRegs (1#1 ++ (0 : BitVec 15))).length ∧
    wA.blockAborts (mode4 .ia (wA.readReg 5) 8).1 2 ∧ wHole.blockAborts (mode4 .ia (wHole.readRegIn .irq 13) 8).1 2 := by
  decide

theorem wit_DataAborts_exclusive :
    (0 : Reg) ≠ 15 ∧ (1 : Reg) ≠ 15 ∧ (2 : Reg) ≠ 15 ∧ (6 : Reg) ≠ 15 ∧ (0 : Reg) ≠ 1 ∧ (2 : Reg) ≠ 1 ∧ (0 : Reg) ≠ 2 ∧
    (2 : Reg) ≠ 6 ∧ (0 : Reg) ≠ 6 ∧
    conditionPassed .al wU = true ∧ wU.entryOpen ∧ low2 (wU.readReg 6) ≠ 0 ∧ wU.alignU = true ∧
    conditionPassed .al wHole = true ∧ wHole.entryOpen ∧ low2 (wHole.readReg 1) = 0 ∧
    wHole.readAborts (wHole.readReg 1) 4 ∧ wHole.mappedBytes (wHole.readReg 1) 4 = false ∧
    wHole.readAborts (wHole.readReg 1 &&& 0xFFFFFFFC) 4 ∧ wHole.mapped (wHole.readReg 1) = false := by decide

theorem wit_DataAborts_coprocessor :
    let s : State := { wCop with params := { Params.default with cp15A := true } }
    let t : State := { wCop with params := { Params.default with unmapped := [⟨0x1000, 0x1000⟩] } }
    conditionPassed .al s = true ∧ s.entryOpen ∧ s.coproc[(7 : BitVec 4).toFin] = .present ⟨[⟨0, 0, none, 0⟩], [5]⟩ ∧
    (⟨[⟨0, 0, none, 0⟩], [5]⟩ : CoprocUnit).words (psrMode s.cpsr) (encode (.ldc .al (.pre true) false 6 0 7 0)) = some 1 ∧
    (⟨[⟨0, 0, none, 0⟩], [5]⟩ : CoprocUnit).words (psrMode s.cpsr) (encode (.stc .al (.pre true) false 6 0 7 0)) = some 1 ∧
    address5 s (.pre true) 6 0 = .ok ⟨0x1001, some 0x1001⟩ ∧ low2 0x1001 ≠ 0 ∧ s.alignA = true ∧
    t.entryOpen ∧ address5 t (.pre true) 1 0 = .ok ⟨0x1000, some 0x1000⟩ ∧
    t.mappedBytes (0x1000 &&& 0xFFFFFFFC) (4 * 1) = false := by decide

theorem wit_UndefinedTaken :
    conditionPassed .al w0 = true ∧ w0.entryOpen ∧ (3 : Reg).getLsbD 0 = true ∧ (3 : Reg) ≠ 15 ∧ (1 : Reg) ≠ 15 ∧
    (1 : Reg) ≠ 3 ∧ w0.coproc[(13 : BitVec 4).toFin] = .absent ∧ (13 : BitVec 4).toNat < 14 ∧
    wOld.coproc[(15 : BitVec 4).toFin] = .absent ∧ wOld.isV6 = false ∧
    w0.coproc[(14 : BitVec 4).toFin] = .absent ∧ w0.isV6 = true ∧ 14 ≤ (14 : BitVec 4).toNat := by decide

theorem wit_UndefinedTaken_rejected :
    w0.coprocRejects 13 (.mcr .al 0 0 3 13 0 0) ∧ wOld.coprocRejects 15 (.mcr .al 0 0 3 15 0 0) ∧
    ({ w0 with coproc := w0.coproc.set 7 (.present ⟨[], []⟩) } : State).coprocRejects 7 (.mrrc2 1 3 7 0 0) := by
  refine ⟨?_, ?_, ?_⟩
  · show _ ∨ _
    decide
  · show _ ∨ _
    decide
  · show CoprocUnit.words _ _ _ = none
    decide

theorem wit_UndefinedTaken_fetched :
    let s := w0.withFetchWord 32 0xE7F000F0
    s.supported ∧ s.noInterrupt ∧ s.inArm ∧ s.bankHazard = .none ∧ s.entryOpen ∧
    (∀ k < 4, (s.pc + BitVec.ofNat 32 k).toNat ∉ s.written) ∧ s.fetchedWord = some 0xE7F000F0 ∧
    decode s.arch 0xE7F000F0 = .undefinedPattern .al ∧ conditionPassed .al s = true :=
  ⟨⟨by decide, by decide, rfl⟩, by decide, by decide, by decide, by decide, by decide, by decide, by decide, by decide⟩

theorem wit_UndefinedTaken_skipped :
    let s := w0.withFetchWord 32 0x07F000F0
    s.supported ∧ s.noInterrupt ∧ s.inArm ∧ s.bankHazard = .none ∧ s.entryOpen ∧
    (∀ k < 4, (s.pc + BitVec.ofNat 32 k).toNat ∉ s.written) ∧ s.fetchedWord = some 0x07F000F0 ∧
    decode s.arch 0x07F000F0 = .undefinedPattern .eq ∧ conditionPassed .eq s = false ∧ s.pc.toNat + 4 < 2 ^ 32 :=
  ⟨⟨by decide, by decide, rfl⟩, by decide, by decide, by decide, by decide, by decide, by decide, by decide, by decide,
    by decide⟩

/-- Supervisor mode with the three lines asserted. -/
def wLines : State := { w0 with fiqLine := true, irqLine := true, abortLine := true }

theorem wit_BoundaryExceptions_fiq :
    wLines.supported ∧ wLines.bankHazard = .none ∧ wLines.entryOpen ∧ wLines.fiqLine = true ∧ wLines.bitF = false :=
  ⟨⟨by decide, by decide, rfl⟩, by decide, by decide, by decide, by decide⟩

theorem wit_BoundaryExceptions_irq :
    let s : State := { wLines with cpsr := 0x53 }
    s.supported ∧ s.bankHazard = .none ∧ s.entryOpen ∧ (s.fiqLine && !s.bitF) = false ∧ s.irqLine = true ∧ s.bitI = false :=
  ⟨⟨by decide, by decide, rfl⟩, by decide, by decide, by decide, by decide, by decide⟩

theorem wit_BoundaryExceptions_abort :
    let s : State := { wLines with cpsr := 0xD3 }
    s.supported ∧ s.bankHazard = .none ∧ s.entryOpen ∧ (s.fiqLine && !s.bitF) = false ∧ (s.irqLine && !s.bitI) = false ∧
    s.isV6 = true ∧ s.abortLine = true ∧ s.bitA = false :=
  ⟨⟨by decide, by decide, rfl⟩, by decide, by decide, by decide, by decide, by decide, by decide, by decide⟩

theorem wit_BoundaryExceptions_fetch :
    let s : State := { wHole with pc := 0x1FFC }
    s.supported ∧ s.bankHazard = .none ∧ s.entryOpen ∧ s.noInterrupt ∧ s.inArm ∧ s.mappedBytes s.pc 4 = false :=
  ⟨⟨by decide, by decide, rfl⟩, by decide, by decide, by decide, by decide, by decide⟩

theorem wit_SwiReturns :
    conditionPassed .al wUser = true ∧ wUser.entryOpen ∧ wUser.inArm ∧ wUser.legalMode ∧
    wUser.cpsr &&& (psrMasks wUser.arch).unalloc = 0 :=
  ⟨by decide, by decide, by decide, rfl, by decide⟩

theorem wit_DataProcessingResults :
    w0.runs .al ∧ (0 : Reg) ≠ 15 ∧ operand2Allowed (DpOp.add.regs 1 0) (.shiftReg 3 .lsl 2) = true ∧ (2 : Reg) ≠ 15 := by
  decide

theorem wit_DataProcessingToPc :
    conditionPassed .al w0 = true ∧ operand2Allowed (DpOp.mov.regs 0 15) (.shiftImm 0 .lsl 7) = true ∧
    (DpOp.mov.value (w0.readReg 0) (shifterOperand w0 (.shiftImm 0 .lsl 7)).1 w0.flagC).extractLsb' 0 2 = 0 ∧
    (DpOp.mov.value (w0.readReg 0) (shifterOperand w0 (.shiftImm 0 .lsl 8)).1 w0.flagC).extractLsb' 0 2 ≠ 0 ∧
    (w0.readReg 7).extractLsb' 0 2 = 0 ∧ (w0.readReg 8).extractLsb' 0 2 ≠ 0 ∧ wUser.spsr.get wUser.mode = none ∧ w0.spsr.get w0.mode = some 0x10 ∧
    0x10 &&& (psrMasks w0.arch).unalloc = 0 ∧ (Mode.ofCode (psrMode 0x10)).isSome = true ∧
    (if (0x10 : Word).getLsbD 5 then
      (DpOp.mov.value (w0.readReg 0) (shifterOperand w0 (.shiftImm 0 .lsl 7)).1 w0.flagC).getLsbD 0 = false
     else (0x10 : Word).getLsbD 24 = false →
      (DpOp.mov.value (w0.readReg 0) (shifterOperand w0 (.shiftImm 0 .lsl 7)).1 w0.flagC).extractLsb' 0 2 = 0) := by decide

theorem wit_TestResults : w0.runs .al ∧ operand2Allowed [1] (.shiftReg 3 .lsl 2) = true := by decide

theorem wit_MultiplyResults :
    (w0.runs .al ∧ (0 : Reg) ≠ 15 ∧ (2 : Reg) ≠ 15 ∧ (3 : Reg) ≠ 15 ∧ (w0.isV6 = true ∨ (0 : Reg) ≠ 0) ∧ (1 : Reg) ≠ 15) ∧
    (wOld.runs .al ∧ (wOld.isV6 = true ∨ (0 : Reg) ≠ 3)) := by decide

theorem wit_LongMultiplyResults :
    (w0.runs .al ∧ (0 : Reg) ≠ 15 ∧ (1 : Reg) ≠ 15 ∧ (2 : Reg) ≠ 15 ∧ (0 : Reg) ≠ 1 ∧
      (w0.isV6 = true ∨ ((0 : Reg) ≠ 0 ∧ (1 : Reg) ≠ 0))) ∧
    (wOld.runs .al ∧ (wOld.isV6 = true ∨ ((0 : Reg) ≠ 2 ∧ (1 : Reg) ≠ 2))) := by decide

theorem wit_AccumulateResults :
    w0.runs .al ∧ (0 : Reg) ≠ 15 ∧ (1 : Reg) ≠ 15 ∧ (2 : Reg) ≠ 15 ∧ (3 : Reg) ≠ 15 := by decide

theorem wit_PlainMultiplyResults :
    w0.runs .al ∧ (0 : Reg) ≠ 15 ∧ (1 : Reg) ≠ 15 ∧ (2 : Reg) ≠ 15 ∧ (3 : Reg) ≠ 15 := by decide

theorem wit_OldMultiplyRestriction :
    (w0.runs .al ∧ w0.isV6 = true ∧ (0 : Reg) = 0 ∧ (0 : Reg) ≠ 1 ∧ (0 : Reg) ≠ 15 ∧ (1 : Reg) ≠ 15 ∧ (2 : Reg) ≠ 15) ∧
    (wOld.runs .al ∧ wOld.isV6 = false ∧ ((0 : Reg) = 0 ∨ (1 : Reg) = 0)) := by decide

theorem wit_ParallelResults :
    w0.runs .al ∧ ((15 : Reg) = 15 ∨ (1 : Reg) = 15 ∨ (2 : Reg) = 15) ∧
    ¬((0 : Reg) = 15 ∨ (1 : Reg) = 15 ∨ (2 : Reg) = 15) := by decide

theorem wit_SelectAndSumResults :
    w0.runs .al ∧ (0 : Reg) ≠ 15 ∧ (1 : Reg) ≠ 15 ∧ (2 : Reg) ≠ 15 ∧ (3 : Reg) ≠ 15 := by decide

theorem wit_SaturatingResults :
    w0.pc.toNat + 4 < 2 ^ 32 ∧ conditionPassed .eq w0 = false ∧ conditionPassed .al w0 = true ∧
    ((15 : Reg) = 15 ∨ (1 : Reg) = 15 ∨ (2 : Reg) = 15) ∧ ¬((0 : Reg) = 15 ∨ (1 : Reg) = 15 ∨ (2 : Reg) = 15) := by decide

theorem wit_SaturateResults : w0.runs .al ∧ (0 : Reg) ≠ 15 ∧ (2 : Reg) ≠ 15 := by decide

theorem wit_PackReverseExtendResults : w0.runs .al ∧ (0 : Reg) ≠ 15 ∧ (2 : Reg) ≠ 15 ∧ (1 : Reg) ≠ 15 := by decide

theorem wit_BranchResults :
    conditionPassed .al w0 = true ∧
    (0 ≤ (w0.pc.toNat + 8 + 4 * (0xFFDFFE : BitVec 24).toInt : Int) ∧
      (w0.pc.toNat + 8 + 4 * (0xFFDFFE : BitVec 24).toInt : Int) + 2 < 2 ^ 32) ∧
    (w0.pc.toNat + 8 + 4 * (0xFFDFFD : BitVec 24).toInt : Int) < 0 ∧
    (2 ^ 32 : Int) ≤ (({ w0 with pc := 0xFFFFFFF4 } : State).pc.toNat + 8 + 4 * (1 : BitVec 24).toInt : Int) + 2 := by
  decide

theorem wit_ExchangeResults :
    conditionPassed .al w0 = true ∧ (w0.readReg 4).extractLsb' 0 2 ≠ 2 ∧ (w0.readReg 8).extractLsb' 0 2 = 2 ∧
    (4 : Reg) ≠ 15 ∧ (8 : Reg) ≠ 15 ∧ w0.params.je = false ∧
    ({ w0 with params := { Params.default with je := true } } : State).params.je = true := by decide

theorem wit_AddressingModes :
    (1 : Reg) ≠ 15 ∧ (3 : Reg) ≠ 15 ∧ (1 : Reg) ≠ 3 ∧ Index2.pre ≠ .offset ∧ Index3.pre ≠ .offset ∧ Index3.pre ≠ .postW := by
  decide

theorem wit_WordLoadResults_aligned :
    w0.runs .al ∧ (0 : Reg) ≠ 15 ∧ address2 w0 .post true 1 (.imm 4) = .ok ⟨0x1000, some 0x1004⟩ ∧
    w0.wordAt 0x1000 = some 0x9000 ∧ (low2 0x1000 = 0 ∨ (w0.alignA = false ∧ w0.alignU = true)) ∧
    (Index2.writes .post = true → (0 : Reg) ≠ 1) ∧ (0 : Reg) ≠ 1 := by decide

theorem wit_WordLoadResults_unaligned :
    wU.runs .al ∧ address2 wU .post true 6 (.imm 4) = .ok ⟨0x1001, some 0x1005⟩ ∧ wU.wordAt 0x1001 = some 0x10000090 ∧
    (low2 0x1001 = 0 ∨ (wU.alignA = false ∧ wU.alignU = true)) ∧ (0 : Reg) ≠ 6 := by decide

theorem wit_WordLoadResults_rotated :
    w0.runs .al ∧ address2 w0 .post true 6 (.imm 4) = .ok ⟨0x1001, some 0x1005⟩ ∧
    w0.wordAt (0x1001 &&& 0xFFFFFFFC) = some 0x9000 ∧ w0.alignA = false ∧ w0.alignU = false ∧ (0 : Reg) ≠ 6 := by decide

theorem wit_LoadPcResults :
    conditionPassed .al w0 = true ∧ address2 w0 .offset true 1 (.imm 0) = .ok ⟨0x1000, none⟩ ∧
    w0.wordAt 0x1000 = some 0x9000 ∧ low2 0x1000 = 0 ∧ w0.arch.atLeastV5 = true ∧ (0x9000 : Word).extractLsb' 0 2 ≠ 2 := by
  decide

theorem wit_LoadPcResults_halfword :
    address2 w0 .offset true 1 (.imm 12) = .ok ⟨0x100C, none⟩ ∧ w0.wordAt 0x100C = some 0x9002 ∧ low2 0x100C = 0 ∧
    (0x9002 : Word).extractLsb' 0 2 = 2 := by decide

theorem wit_LoadPcResults_old :
    conditionPassed .al wOld = true ∧ address2 wOld .offset true 1 (.imm 12) = .ok ⟨0x100C, none⟩ ∧
    wOld.wordAt 0x100C = some 0x9002 ∧ low2 0x100C = 0 ∧ wOld.arch.atLeastV5 = false := by decide

theorem wit_LoadPcResults_misaligned :
    conditionPassed .al w0 = true ∧ address2 w0 .offset true 6 (.imm 0) = .ok ⟨0x1001, none⟩ ∧ low2 0x1001 ≠ 0 ∧
    w0.alignA = false := by decide

theorem wit_NarrowLoadResults_byte :
    w0.runs .al ∧ (0 : Reg) ≠ 15 ∧ address2 w0 .post true 6 (.imm 1) = .ok ⟨0x1001, some 0x1002⟩ ∧
    w0.dataByte 0x1001 = some 0x90 ∧ (Index2.writes .post = true → (0 : Reg) ≠ 6) ∧ (0 : Reg) ≠ 6 := by decide

theorem wit_NarrowLoadResults_half :
    w0.runs .al ∧ (0 : Reg) ≠ 15 ∧ address3 w0 .post true 5 (.imm 1) = .ok ⟨0x1002, some 0x1003⟩ ∧
    (Index3.writes .post = true → (0 : Reg) ≠ 5) ∧ w0.dataByte 0x1002 = some 0 ∧ w0.halfAt 0x1002 = some 0 ∧
    ((0x1002 : Word).getLsbD 0 = false ∨ (w0.alignA = false ∧ w0.alignU = true)) := by decide

theorem wit_NarrowLoadResults_odd :
    wU.runs .al ∧ address3 wU .post true 6 (.imm 1) = .ok ⟨0x1001, some 0x1002⟩ ∧ wU.halfAt 0x1001 = some 0x90 ∧
    ((0x1001 : Word).getLsbD 0 = false ∨ (wU.alignA = false ∧ wU.alignU = true)) := by decide

theorem wit_MisalignedAccessStops_half :
    conditionPassed .al w0 = true ∧ w0.alignA = false ∧ w0.alignU = false ∧ (0 : Reg) ≠ 15 ∧
    address3 w0 .post true 6 (.imm 1) = .ok ⟨0x1001, some 0x1002⟩ ∧ (0x1001 : Word).getLsbD 0 = true ∧
    (Index3.writes .post = true → (0 : Reg) ≠ 6) := by decide

theorem wit_MisalignedAccessStops_double :
    address3 w0 .pre true 1 (.imm 4) = .ok ⟨0x1004, some 0x1004⟩ ∧ w0.alignA = false ∧
    (0x1004 : Word).toNat % (if w0.alignU then 4 else 8) ≠ 0 ∧ address3 wU .pre true 5 (.imm 0) = .ok ⟨0x1002, some 0x1002⟩ ∧
    wU.alignA = false ∧ (0x1002 : Word).toNat % (if wU.alignU then 4 else 8) ≠ 0 ∧
    (2 : Reg).getLsbD 0 = false ∧ (2 : Reg) ≠ 14 ∧ offsetInPair 2 (.imm 4) = false ∧
    (Index3.writes .pre = true → (1 : Reg) ≠ 2 ∧ (1 : Reg) ≠ 2 + 1) := by decide

theorem wit_MisalignedAccessStops_exclusive :
    (2 : Reg) ≠ 15 ∧ (6 : Reg) ≠ 15 ∧ (0 : Reg) ≠ 15 ∧ w0.alignU = false ∧ low2 (w0.readReg 6) ≠ 0 ∧ (0 : Reg) ≠ 6 ∧
    (0 : Reg) ≠ 2 := by decide

theorem wit_DoublewordResults :
    w0.runs .al ∧ (2 : Reg).getLsbD 0 = false ∧ (2 : Reg) ≠ 14 ∧
    (Index3.writes .post = true → (1 : Reg) ≠ 2 ∧ (1 : Reg) ≠ 2 + 1) ∧
    address3 w0 .post true 1 (.imm 8) = .ok ⟨0x1000, some 0x1008⟩ ∧ low2 0x1000 = 0 ∧
    (w0.alignU = true ∨ (0x1000 : Word).getLsbD 2 = false) ∧ w0.wordAt 0x1000 = some 0x9000 ∧
    w0.wordAt (0x1000 + 4) = some 0x10 ∧ offsetInPair 2 (.imm 8) = false ∧ w0.mappedBytes 0x1000 8 = true := by decide

theorem wit_StoreResults :
    w0.runs .al ∧ address2 w0 .post true 6 (.imm 4) = .ok ⟨0x1001, some 0x1005⟩ ∧ w0.alignU = false ∧
    (low2 0x1001 = 0 ∨ w0.alignA = false) ∧ w0.mappedBytes (0x1001 &&& 0xFFFFFFFC) 4 = true ∧
    (Index2.writes .post = true → (0 : Reg) ≠ 6) ∧ (0 : Reg) ≠ 6 ∧ (0 : Reg) ≠ 15 ∧ w0.mapped 0x1001 = true := by decide

theorem wit_StoreResults_half :
    w0.runs .al ∧ address3 w0 .post true 5 (.imm 4) = .ok ⟨0x1002, some 0x1006⟩ ∧ (0 : Reg) ≠ 15 ∧
    (Index3.writes .post = true → (0 : Reg) ≠ 5) ∧
    ((0x1002 : Word).getLsbD 0 = false ∨ (w0.alignA = false ∧ w0.alignU = true)) ∧
    w0.mappedBytes 0x1002 2 = true := by decide

theorem wit_StoredWord :
    w0.mappedBytes 0xFFFFFFFE 4 = true ∧ ∀ k < 4, (0x1000 : Word) ≠ 0xFFFFFFFE + BitVec.ofNat 32 k := by decide

theorem wit_PldIsNoOp : w0.pc.toNat + 4 < 2 ^ 32 ∧ offset2Reg (.reg 0 .lsl 3) ≠ some 15 := by decide

theorem wit_LoadMultipleResults :
    let list : BitVec 16 := 0x0C01
    let n := (listRegs list).length
    let start := (mode4 .ia (w0.readReg 1) (4 * n)).1
    let a : Word := start &&& 0xFFFFFFFC
    (w0.runs .al ∧ (1 : Reg) ≠ 15 ∧ list ≠ 0 ∧ (low2 start = 0 ∨ (w0.alignA = false ∧ w0.alignU = false)) ∧
      a.toNat + 4 * n ≤ 2 ^ 32 ∧ w0.wordsAt a n = true ∧ list.getLsbD 15 = false) ∧
    (list.getLsbD (10 : Reg).toNat = true ∧ (10 : Reg) ≠ 1 ∧ list.getLsbD (1 : Reg).toNat = false ∧
      list = (0x0C01 : BitVec 15).setWidth 16 ∧ w0.mode ≠ .usr ∧ w0.mode ≠ .sys ∧ list.getLsbD (11 : Fin 15).val = true) := by
  decide

theorem wit_LoadMultipleResults_unaligned :
    let list : BitVec 16 := 0x0001
    let start := (mode4 .ia (w0.readReg 5) 4).1
    let a : Word := start &&& 0xFFFFFFFC
    (low2 start = 0 ∨ (w0.alignA = false ∧ w0.alignU = false)) ∧ a.toNat + 4 ≤ 2 ^ 32 ∧ w0.wordsAt a 1 = true ∧
    (listRegs list).length = 1 := by decide

theorem wit_LoadMultipleResults_pc :
    let list : BitVec 16 := 0x8000
    let n := (listRegs list).length
    let start := (mode4 .ia (w0.readReg 1) (4 * n)).1
    let a : Word := start &&& 0xFFFFFFFC
    w0.runs .al ∧ (1 : Reg) ≠ 15 ∧ list ≠ 0 ∧ (low2 start = 0 ∨ (w0.alignA = false ∧ w0.alignU = false)) ∧
    a.toNat + 4 * n ≤ 2 ^ 32 ∧ w0.wordsAt a n = true ∧ w0.wordAt (slotOf a list 15) = some 0x9000 ∧
    list.getLsbD 15 = true ∧ (w0.arch.atLeastV5 = true → (0x9000 : Word).extractLsb' 0 2 ≠ 2) := by decide

theorem wit_ReturnResults_ldm :
    let list : BitVec 16 := 1#1 ++ (0x4000 : BitVec 15)
    let n := (listRegs list).length
    let start := (mode4 .db (w0.readReg 2) (4 * n)).1
    let a : Word := start &&& 0xFFFFFFFC
    conditionPassed .al w0 = true ∧ (2 : Reg) ≠ 15 ∧ (low2 start = 0 ∨ (w0.alignA = false ∧ w0.alignU = false)) ∧
    a.toNat + 4 * n ≤ 2 ^ 32 ∧ w0.wordsAt a n = true ∧ w0.wordAt (slotOf a list 15) = some 0x10 ∧
    w0.spsr.get w0.mode = some 0x10 ∧ w0.returnsTo 0x10 0x10 ∧ (14 : Reg) ≠ 15 ∧ list.getLsbD (14 : Reg).toNat = true ∧
    (true = true → (14 : Reg) ≠ 2) ∧ list.getLsbD (2 : Reg).toNat = false := by decide

theorem wit_ReturnResults_rfe :
    let start := (mode4 .ia (w0.readReg 1) 8).1
    let a : Word := start &&& 0xFFFFFFFC
    w0.mode ≠ .usr ∧ (low2 start = 0 ∨ (w0.alignA = false ∧ w0.alignU = false)) ∧ a.toNat + 8 ≤ 2 ^ 32 ∧
    w0.wordAt a = some 0x9000 ∧ w0.wordAt (a + 4) = some 0x10 ∧ w0.returnsTo 0x10 0x9000 := by decide

theorem wit_StoreMultipleResults :
    let list : BitVec 16 := 0x8003
    let n := (listRegs list).length
    let start := (mode4 .ib (w0.readReg 1) (4 * n)).1
    let a : Word := start &&& 0xFFFFFFFC
    w0.pc.toNat + 4 < 2 ^ 32 ∧ conditionPassed .al w0 = true ∧ (1 : Reg) ≠ 15 ∧ list ≠ 0 ∧
    (low2 start = 0 ∨ (w0.alignA = false ∧ w0.alignU = false)) ∧ a.toNat + 4 * n ≤ 2 ^ 32 ∧
    w0.mappedBytes a (4 * n) = true ∧ list.getLsbD (15 : Reg).toNat = true ∧ listRank list 1 ≠ 0 ∧ w0.mode ≠ .usr ∧
    w0.mode ≠ .sys := by decide

theorem wit_StoreMultipleResults_srs :
    let start := (mode4 .db (w0.readRegIn .irq 13) 8).1
    let a : Word := start &&& 0xFFFFFFFC
    w0.spsr.get w0.mode = some 0x10 ∧ (low2 start = 0 ∨ (w0.alignA = false ∧ w0.alignU = false)) ∧
    a.toNat + 8 ≤ 2 ^ 32 ∧ w0.mappedBytes a 8 = true := by decide

theorem wit_StackRoundTrip :
    let list : BitVec 16 := 0x4003
    let n := (listRegs list).length
    w0.runs .al ∧ (13 : Reg) ≠ 15 ∧ list ≠ 0 ∧ list.getLsbD 15 = false ∧ list.getLsbD (13 : Reg).toNat = false ∧
    low2 (w0.readReg 13) = 0 ∧ 4 * n ≤ (w0.readReg 13).toNat ∧
    w0.mappedBytes (w0.readReg 13 - BitVec.ofNat 32 (4 * n)) (4 * n) = true := by decide

theorem wit_StackRoundTrip_loads :
    ∃ t, exec (.stm1 .al .db true 13 0x4003) w0 = .next t ∧
      ∃ u : State, u.mem = t.mem ∧ u.params = t.params ∧ u.cpsr = t.cpsr ∧ u.readReg 13 = t.readReg 13 ∧ u.runs .al := by
  obtain ⟨t, h⟩ := next_of_goesNext (o := exec (.stm1 .al .db true 13 0x4003) w0) (by decide)
  refine ⟨t, h, { t with pc := 0x8004 }, rfl, rfl, rfl, ?_, rfl, ?_⟩
  · have hm : ({ t with pc := 0x8004 } : State).mode = t.mode := rfl
    simp only [State.readReg, State.readRegIn, hm, State.readPhys]
    cases hp : physReg t.mode 13 with
    | some p => rfl
    | none => simp [physReg] at hp
  · show (0x8004 : Word).toNat + 4 < 2 ^ 32
    decide

theorem wit_ExclusiveResults :
    (low2 (w0.readReg 1) = 0 ∧ (1 : Reg) ≠ 15 ∧ w0.wordAt (w0.readReg 1) = some 0x9000) ∧
    (w0.runs .al ∧ (1 : Reg) ≠ 15 ∧ (0 : Reg) ≠ 15 ∧ (2 : Reg) ≠ 15 ∧ (0 : Reg) ≠ 1 ∧ (0 : Reg) ≠ 2 ∧
      low2 (w0.readReg 1) = 0 ∧ w0.wordAt (w0.readReg 1) = some 0x9000 ∧ w0.mappedBytes (w0.readReg 1) 4 = true ∧
      w0.localMonitor = none) ∧
    (let s : State := { w0 with localMonitor := some ⟨0x1000, 4⟩ }
     s.localMonitor = some ⟨s.readReg 1, 4⟩ ∧ s.isShared (s.readReg 1) = false) ∧
    (wShared.runs .al ∧ wShared.mappedBytes (wShared.readReg 1) 4 = true ∧
      wShared.localMonitor = some ⟨wShared.readReg 1, 4⟩ ∧ wShared.isShared (wShared.readReg 1) = true ∧
      ⟨0, ⟨wShared.readReg 1, 4⟩⟩ ∈ wShared.globalMonitor) ∧
    (let s : State := { wShared with globalMonitor := [⟨1, ⟨0x1000, 4⟩⟩] }
     s.isShared (s.readReg 1) = true ∧ ∀ g ∈ s.globalMonitor, g.pid ≠ 0) := by decide

theorem wit_LdrexThenStrex :
    w0.pc.toNat + 12 < 2 ^ 32 ∧ (1 : Reg) ≠ 15 ∧ (0 : Reg) ≠ 15 ∧ (3 : Reg) ≠ 15 ∧ (2 : Reg) ≠ 15 ∧ (0 : Reg) ≠ 1 ∧
    (3 : Reg) ≠ 1 ∧ (3 : Reg) ≠ 2 ∧ low2 (w0.readReg 1) = 0 ∧ w0.wordAt (w0.readReg 1) = some 0x9000 := by decide

theorem wit_SwapResults :
    w0.runs .al ∧ (6 : Reg) ≠ 15 ∧ (0 : Reg) ≠ 15 ∧ (2 : Reg) ≠ 15 ∧ (6 : Reg) ≠ 2 ∧ (6 : Reg) ≠ 0 ∧
    w0.wordAt (w0.readReg 6 &&& 0xFFFFFFFC) = some 0x9000 ∧
    (low2 (w0.readReg 6) = 0 ∨ (w0.alignA = false ∧ w0.alignU = false)) ∧ w0.dataByte (w0.readReg 6) = some 0x90 := by decide

theorem wit_MrsResults :
    w0.pc.toNat + 4 < 2 ^ 32 ∧ conditionPassed .eq w0 = false ∧ conditionPassed .al w0 = true ∧ (0 : Reg) ≠ 15 ∧
    (w0.mode ≠ .usr ∧ w0.mode ≠ .sys) ∧ w0.spsr.get w0.mode = some 0x10 ∧ (wUser.mode = .usr ∨ wUser.mode = .sys) := by
  decide

theorem wit_MsrResults :
    w0.runs .al ∧ (0 : Reg) ≠ 15 ∧ w0.spsr.get w0.mode = some 0x10 ∧ wUser.runs .al ∧
    wUser.spsr.get wUser.mode = none ∧
    (psrMode 0xFF = 0 ∨ (Mode.ofCode (psrMode ((0x10 &&& ~~~ 0xFF) ||| (0x12 &&& 0xFF)))).isSome = true) := by decide

theorem wit_ChangeStateResults :
    w0.pc.toNat + 4 < 2 ^ 32 ∧ w0.mode ≠ .usr ∧ wUser.mode = .usr ∧ (Mode.ofCode 0x12).isSome = true ∧
    (Mode.ofCode 0x14).isSome = false := by decide

theorem wit_CoprocessorResults :
    wCop.pc.toNat + 4 < 2 ^ 32 ∧ conditionPassed .al wCop = true ∧
    wCop.coproc[(7 : BitVec 4).toFin] = .present ⟨[⟨0, 0, none, 0⟩], [5]⟩ ∧
    (⟨[⟨0, 0, none, 0⟩], [5]⟩ : CoprocUnit).words (psrMode wCop.cpsr) (encode (.cdp .al 1 0 0 7 0 0)) = some 1 ∧
    (⟨[⟨0, 0, none, 0⟩], [5]⟩ : CoprocUnit).words (psrMode wCop.cpsr) (encode (.cdp2 1 0 0 7 0 0)) = some 1 ∧
    (⟨[⟨0, 0, none, 0⟩], [5]⟩ : CoprocUnit).words (psrMode wCop.cpsr) (encode (.mcr .al 1 0 0 7 0 0)) = some 1 ∧
    (⟨[⟨0, 0, none, 0⟩], [5]⟩ : CoprocUnit).words (psrMode wCop.cpsr) (encode (.mrc .al 1 0 15 7 0 0)) = some 1 ∧
    (⟨[⟨0, 0, none, 0⟩], [5]⟩ : CoprocUnit).words (psrMode wCop.cpsr) (encode (.mcrr .al 1 0 7 0 0)) = some 1 ∧
    (⟨[⟨0, 0, none, 0⟩], [5]⟩ : CoprocUnit).words (psrMode wCop.cpsr) (encode (.mrrc .al 1 0 7 0 0)) = some 1 ∧ (0 : Reg) ≠ 15 ∧ (1 : Reg) ≠ 15 ∧
    (1 : Reg) ≠ 0 := by decide

theorem wit_CoprocessorResults_memory :
    address5 wCop (.pre true) 1 1 = .ok ⟨0x1004, some 0x1004⟩ ∧
    (low2 0x1004 = 0 ∨ (wCop.alignA = false ∧ wCop.alignU = false)) ∧
    (⟨[⟨0, 0, none, 0⟩], [5]⟩ : CoprocUnit).words (psrMode wCop.cpsr) (encode (.ldc .al (.pre true) false 1 0 7 1)) = some 1 ∧
    (⟨[⟨0, 0, none, 0⟩], [5]⟩ : CoprocUnit).words (psrMode wCop.cpsr) (encode (.stc .al (.pre true) false 1 0 7 1)) = some 1 ∧
    wCop.wordsAt (0x1004 &&& 0xFFFFFFFC) 1 = true ∧ wCop.mappedBytes (0x1004 &&& 0xFFFFFFFC) (4 * 1) = true := by decide

theorem wit_PcOperandStops :
    pcForbidden (.clz .al 15 0) = true ∧ conditionPassed (instrCond (.clz .al 15 0)) w0 = true := by decide

theorem wit_UserModeStops :
    conditionPassed .al wUser = true ∧ (1 : Reg) ≠ 15 ∧ (wUser.mode = .usr ∨ wUser.mode = .sys) ∧ (1 : BitVec 15) ≠ 0 ∧
    (1 : BitVec 16) ≠ 0 ∧ wUser.mode = .usr := by decide

/-- The instruction after an LDM (2) at ARMv4T, one that reads R13. -/
def wHazard : State := { wOld.withFetchWord 32 0xE1A0000D with bankHazard := .armed }

theorem wit_HazardFaults :
    wHazard.supported ∧ wHazard.noInterrupt ∧ wHazard.inArm ∧ wHazard.bankHazard = .armed ∧
    fetch wHazard = .decoded (.instr (.mov .al false 0 (.shiftImm 0 .lsl 13))) ∧
    conditionPassed (instrCond (.mov .al false 0 (.shiftImm 0 .lsl 13))) wHazard = true ∧
    (13 : Reg) ∈ instrRegs (.mov .al false 0 (.shiftImm 0 .lsl 13)) ∧
    (13 ≤ (13 : Reg).toNat ∧ (13 : Reg).toNat ≤ 14 ∨
      wHazard.mode = .fiq ∧ 8 ≤ (13 : Reg).toNat ∧ (13 : Reg).toNat ≤ 12) :=
  ⟨⟨by decide, by decide, rfl⟩, by decide, by decide, by decide, by decide, by decide, by decide, by decide⟩

end Sys2Proof.Tests
end

section
/-! PLD touches no memory (R111, R418). -/

namespace Sys2Proof.Machine

theorem exec_pld (up : Bool) (rn : Reg) (off : Offset2) (s : State) :
    exec (.pld up rn off) s = execPld up rn off s := rfl

/-- R418: PLD forms no address and makes no access, so once its offset register passes the check of R404 all that is left
is the move of the pc. -/
theorem execPld_eq_finish_advance (up : Bool) (rn : Reg) (off : Offset2) (s : State) (hoff : offset2Reg off ≠ some 15) :
    execPld up rn off s = finish s (advance s) := by
  have hcheck : require (offset2Reg off != some 15) .r15Operand = .ok () :=
    (require_ok _ _).mpr (bne_iff_ne.mpr hoff)
  unfold execPld
  rw [hcheck]
  rfl

/-- Settles O46: past its operand check PLD is only the move of the pc, which succeeds below the top of the address
space. -/
theorem pldIsNoOp : Obligations.PldIsNoOp := by
  unfold Obligations.PldIsNoOp
  intro up rn off s hpc hoff
  rw [exec_pld, execPld_eq_finish_advance up rn off s hoff]
  exact finish_ok ((advance_ok s _).mpr ⟨hpc, rfl⟩)

end Sys2Proof.Machine
end

section
/-! The saturating additions and subtractions QADD, QSUB, QDADD and QDSUB (R345 to R348). -/

namespace Sys2Proof

/-- R141: a joined word read from the left in whole fields, bits 27:20 and bits 11:4 as bytes. -/
theorem joinWord_eq_append (f : Fields) :
    joinWord f = f.cond ++ ((nib f.b27 f.b26 f.b25 f.b24 ++ nib f.b23 f.b22 f.b21 f.b20) ++
      (f.rn ++ (f.rd ++ ((f.rs ++ nib f.b7 f.b6 f.b5 f.b4) ++ f.rm)))) := by
  simp only [joinWord, BitVec.append_assoc, BitVec.cast_eq]

/-! ### The words of the four -/

section Words
variable (c : Cond) (rn rd rm : Reg)

/-- The fields the words of R345 to R348 share: only bits 22 and 21 tell the four apart. -/
def saturatingFields (b22 b21 : Bool) : Fields :=
  ⟨c.code, false, false, false, true, false, b22, b21, false, rn, rd, 0, false, true, false, true, rm⟩

theorem joinWord_saturatingFields (b22 b21 : Bool) : joinWord (saturatingFields c rn rd rm b22 b21) =
    c.code ++ ((nib false false false true ++ nib false b22 b21 false) ++ (rn ++ (rd ++ (0x05#8 ++ rm)))) := by
  have hlow : 0#4 ++ nib false true false true = 0x05#8 := by decide
  rw [joinWord_eq_append, ← hlow]
  rfl

theorem encode_qadd : encode (.qadd c rn rd rm) = c.code ++ (0x10#8 ++ (rn ++ (rd ++ (0x05#8 ++ rm)))) :=
  joinWord_saturatingFields c rn rd rm false false

theorem encode_qsub : encode (.qsub c rn rd rm) = c.code ++ (0x12#8 ++ (rn ++ (rd ++ (0x05#8 ++ rm)))) :=
  joinWord_saturatingFields c rn rd rm false true

theorem encode_qdadd : encode (.qdadd c rn rd rm) = c.code ++ (0x14#8 ++ (rn ++ (rd ++ (0x05#8 ++ rm)))) :=
  joinWord_saturatingFields c rn rd rm true false

theorem encode_qdsub : encode (.qdsub c rn rd rm) = c.code ++ (0x16#8 ++ (rn ++ (rd ++ (0x05#8 ++ rm)))) :=
  joinWord_saturatingFields c rn rd rm true true

end Words

namespace Machine

/-! ### Saturation and Q -/

/-- R25 at 32 bits: saturating is taking the nearest signed word. -/
theorem signedSat_32 (x : Int) : signedSat x 32 = clamp (-2147483648) 2147483647 x := by
  unfold signedSat clamp
  omega

theorem signedDoesSat_32 (x : Int) : signedDoesSat x 32 = outside32 x := rfl

theorem withBit_27_true (x : Word) : withBit x 27 true = x ||| 0x08000000 := rfl

/-- R53: `stickQ` changes only the CPSR, and there at most bit 27. -/
theorem State.stickQ_eq (s : State) (q : Bool) : s.stickQ q = { s with cpsr := psrSticky s.cpsr q } := by
  cases q with
  | false => rfl
  | true => exact congrArg s.setCpsr (withBit_27_true s.cpsr)

/-! ### The three outcomes of `satOp` -/

section Outcomes
variable {c : Cond} {rd : Reg} {sources : List Reg} {s : State} {v : Word} {q : Bool}

theorem advance_stickQ_writeReg (hpc : s.pc.toNat + 4 < 2 ^ 32) :
    advance ((s.writeReg rd v).stickQ q) = .ok (s.result rd v (psrSticky s.cpsr q)) := by
  rw [State.stickQ_eq, State.writeReg_cpsr, advance_ok]
  exact ⟨by simpa using hpc, rfl⟩

theorem satOp_of_fail (hpc : s.pc.toNat + 4 < 2 ^ 32) (hc : conditionPassed c s = false) :
    satOp c rd sources s v q = .next s.past := by
  unfold satOp
  rw [conditional_fail _ hc]
  exact finish_ok ((advance_ok s _).mpr ⟨hpc, rfl⟩)

theorem requireNoPc_of_mem {rs : List Reg} (h : (15 : Reg) ∈ rs) : requireNoPc rs = unpredictable .r15Operand := by
  have hfails : rs.all (fun r => r != 15) = false := List.all_eq_false.mpr ⟨15, h, by simp⟩
  rw [requireNoPc, hfails, require_false]

theorem satOp_of_pc (hc : conditionPassed c s = true) (h15 : (15 : Reg) ∈ rd :: sources) :
    stopsAs (satOp c rd sources s v q) .r15Operand := by
  unfold satOp
  rw [conditional_pass _ hc, requireNoPc_of_mem h15]
  rfl

theorem satOp_of_pass (hpc : s.pc.toNat + 4 < 2 ^ 32) (hc : conditionPassed c s = true)
    (h15 : (15 : Reg) ∉ rd :: sources) :
    satOp c rd sources s v q = .next (s.result rd v (psrSticky s.cpsr q)) := by
  have hregs : requireNoPc (rd :: sources) = .ok () := (requireNoPc_ok _).mpr fun r hr h => h15 (h ▸ hr)
  unfold satOp
  rw [conditional_pass _ hc, hregs]
  exact finish_ok (advance_stickQ_writeReg hpc)

end Outcomes

/-- What an instruction that is a `satOp` on two source registers answers: it is passed over, stops on R15, or leaves its
value and Q. -/
theorem outcome_of_eq_satOp {c : Cond} {rn rd rm : Reg} {s : State} {v : Word} {q : Bool} {o : Out}
    (hpc : s.pc.toNat + 4 < 2 ^ 32) (ho : o = satOp c rd [rn, rm] s v q) :
    if conditionPassed c s = false then o = .next s.past
    else if rd = 15 ∨ rm = 15 ∨ rn = 15 then stopsAs o .r15Operand
    else o = .next (s.result rd v (psrSticky s.cpsr q)) := by
  subst ho
  have hmem : (15 : Reg) ∈ [rd, rn, rm] ↔ rd = 15 ∨ rm = 15 ∨ rn = 15 := by
    simp only [List.mem_cons, List.not_mem_nil, or_false, eq_comm (a := (15 : Reg)), or_comm (a := rn = 15)]
  split
  next hfail => exact satOp_of_fail hpc hfail
  next hpass =>
    have hc : conditionPassed c s = true := eq_true_of_ne_false hpass
    split
    next h15 => exact satOp_of_pc hc (hmem.mpr h15)
    next h15 => exact satOp_of_pass hpc hc (mt hmem.mp h15)

/-! ### The four instructions as a `satOp` -/

section Meanings
variable (c : Cond) (rn rd rm : Reg) (s : State)

theorem exec_qadd : exec (.qadd c rn rd rm) s =
    let e := (s.readReg rm).toInt + (s.readReg rn).toInt
    satOp c rd [rn, rm] s (BitVec.ofInt 32 (clamp (-2147483648) 2147483647 e)) (outside32 e) := by
  change execQadd c rn rd rm s = _
  simp only [execQadd, toWord, signedSat_32, signedDoesSat_32]

theorem exec_qsub : exec (.qsub c rn rd rm) s =
    let e := (s.readReg rm).toInt - (s.readReg rn).toInt
    satOp c rd [rn, rm] s (BitVec.ofInt 32 (clamp (-2147483648) 2147483647 e)) (outside32 e) := by
  change execQsub c rn rd rm s = _
  simp only [execQsub, toWord, signedSat_32, signedDoesSat_32]

theorem exec_qdadd : exec (.qdadd c rn rd rm) s =
    let d := 2 * (s.readReg rn).toInt
    let e := (s.readReg rm).toInt + clamp (-2147483648) 2147483647 d
    satOp c rd [rn, rm] s (BitVec.ofInt 32 (clamp (-2147483648) 2147483647 e)) (outside32 d || outside32 e) := by
  change execQdadd c rn rd rm s = _
  simp only [execQdadd, doubled, toWord, signedSat_32, signedDoesSat_32, Bool.or_comm]

theorem exec_qdsub : exec (.qdsub c rn rd rm) s =
    let d := 2 * (s.readReg rn).toInt
    let e := (s.readReg rm).toInt - clamp (-2147483648) 2147483647 d
    satOp c rd [rn, rm] s (BitVec.ofInt 32 (clamp (-2147483648) 2147483647 e)) (outside32 d || outside32 e) := by
  change execQdsub c rn rd rm s = _
  simp only [execQdsub, doubled, toWord, signedSat_32, signedDoesSat_32, Bool.or_comm]

end Meanings

/-- Settles O33: each of the four has its row's word and versions, and is one `satOp`, whose three outcomes are the ones
stated. -/
theorem saturatingResults : Obligations.SaturatingResults := by
  unfold Obligations.SaturatingResults
  intro c rn rd rm s hpc
  refine ⟨⟨encode_qadd c rn rd rm, fun _ => rfl, ?qadd⟩, ⟨encode_qsub c rn rd rm, fun _ => rfl, ?qsub⟩,
    ⟨encode_qdadd c rn rd rm, fun _ => rfl, ?qdadd⟩, ⟨encode_qdsub c rn rd rm, fun _ => rfl, ?qdsub⟩⟩
  case qadd => exact outcome_of_eq_satOp hpc (exec_qadd c rn rd rm s)
  case qsub => exact outcome_of_eq_satOp hpc (exec_qsub c rn rd rm s)
  case qdadd => exact outcome_of_eq_satOp hpc (exec_qdadd c rn rd rm s)
  case qdsub => exact outcome_of_eq_satOp hpc (exec_qdsub c rn rd rm s)

end Machine
end Sys2Proof
end

section
/-! MRS copies the CPSR or the SPSR of the current mode (R501). -/

namespace Sys2Proof

/-! ### The word of MRS -/

/-- Bits 27:20 of MRS: the opcode, R and two zeros. -/
theorem nib_mrsByte (r : Bool) :
    nib false false false true ++ nib false r false false = 0b00010#5 ++ (BitVec.ofBool r ++ 0b00#2) := by
  cases r <;> decide

theorem encode_mrs (c : Cond) (r : Bool) (rd : Reg) :
    encode (.mrs c r rd) = c.code ++ (0b00010#5 ++ (BitVec.ofBool r ++ (0b00#2 ++ (0xF#4 ++ (rd ++ 0#12))))) := by
  have hlow : (0#4 ++ nib false false false false) ++ 0#4 = 0#12 := by decide
  calc encode (.mrs c r rd)
      = c.code ++ ((nib false false false true ++ nib false r false false) ++ (0xF#4 ++ (rd ++ 0#12))) := by
        rw [encode, joinWord_eq_append, ← hlow]
        rfl
    _ = _ := by simp only [nib_mrsByte, BitVec.append_assoc, BitVec.cast_eq]

namespace Machine

/-! ### What MRS reads -/

/-- R61: in User and System mode there is no SPSR. -/
theorem SpsrFile.get_of_no_spsr (f : SpsrFile) {m : Mode} (hm : m = .usr ∨ m = .sys) : f.get m = none := by
  rcases hm with rfl | rfl <;> rfl

theorem currentSpsr_of_none {s : State} (h : s.spsr.get s.mode = none) : currentSpsr s = unpredictable .noSpsr := by
  rw [currentSpsr, h]

/-! ### The outcomes of MRS -/

/-- R16: an instruction passed over leaves only the pc moved, whatever its body. -/
theorem finish_conditional_of_fail {c : Cond} {s : State} (body : Exec State) (hpc : s.pc.toNat + 4 < 2 ^ 32)
    (hc : conditionPassed c s = false) : finish s (conditional c s body) = .next s.past := by
  rw [conditional_fail _ hc]
  exact finish_ok ((advance_ok s _).mpr ⟨hpc, rfl⟩)

/-- An ordinary result leaves the CPSR alone: it is the case without saturation of `advance_stickQ_writeReg`. -/
theorem advance_writeReg {rd : Reg} {s : State} {v : Word} (hpc : s.pc.toNat + 4 < 2 ^ 32) :
    advance (s.writeReg rd v) = .ok (s.result rd v s.cpsr) :=
  advance_stickQ_writeReg (q := false) hpc

section Outcomes
variable {c : Cond} {r : Bool} {rd : Reg} {s : State}

theorem exec_mrs_of_fail (hpc : s.pc.toNat + 4 < 2 ^ 32) (hc : conditionPassed c s = false) :
    exec (.mrs c r rd) s = .next s.past :=
  finish_conditional_of_fail _ hpc hc

theorem exec_mrs_of_pc (hc : conditionPassed c s = true) : stopsAs (exec (.mrs c r 15) s) .r15Operand := by
  change execMrs c r 15 s = _
  rw [execMrs, conditional_pass _ hc]
  rfl

/-- Past its operand check MRS is the read of its source and the write of what it read. -/
theorem exec_mrs_of_pass (hc : conditionPassed c s = true) (hrd : rd ≠ 15) :
    exec (.mrs c r rd) s =
      finish s ((if r then currentSpsr s else .ok s.cpsr) >>= fun v => advance (s.writeReg rd v)) := by
  have hcheck : require (rd != 15) .r15Operand = .ok () := (require_ok _ _).mpr (bne_iff_ne.mpr hrd)
  change execMrs c r rd s = _
  rw [execMrs, conditional_pass _ hc, hcheck]
  cases r <;> rfl

theorem exec_mrs_cpsr (hpc : s.pc.toNat + 4 < 2 ^ 32) (hc : conditionPassed c s = true) (hrd : rd ≠ 15) :
    exec (.mrs c false rd) s = .next (s.result rd s.cpsr s.cpsr) := by
  rw [exec_mrs_of_pass hc hrd]
  exact finish_ok (advance_writeReg hpc)

theorem exec_mrs_spsr {x : Word} (hpc : s.pc.toNat + 4 < 2 ^ 32) (hc : conditionPassed c s = true) (hrd : rd ≠ 15)
    (hx : s.spsr.get s.mode = some x) : exec (.mrs c true rd) s = .next (s.result rd x s.cpsr) := by
  rw [exec_mrs_of_pass hc hrd, if_pos rfl, (currentSpsr_ok s x).mpr hx]
  exact finish_ok (advance_writeReg hpc)

theorem exec_mrs_no_spsr (hc : conditionPassed c s = true) (hrd : rd ≠ 15) (hnone : s.spsr.get s.mode = none) :
    stopsAs (exec (.mrs c true rd) s) .noSpsr := by
  rw [exec_mrs_of_pass hc hrd, if_pos rfl, currentSpsr_of_none hnone]
  rfl

end Outcomes

/-- Settles O54: the word and the versions are MRS's row; the condition, then Rd, then the presence of the SPSR decide which
of its outcomes MRS has. -/
theorem mrsResults : Obligations.MrsResults := by
  unfold Obligations.MrsResults
  intro c r rd s hpc
  refine ⟨encode_mrs c r rd, fun _ => rfl, ?_⟩
  split
  next hfail => exact exec_mrs_of_fail hpc hfail
  next hpass =>
    have hc : conditionPassed c s = true := eq_true_of_ne_false hpass
    split
    next h15 =>
      subst h15
      exact exec_mrs_of_pc hc
    next hrd =>
      refine ⟨?cpsr, ?noSpsr, ?spsr⟩
      case cpsr =>
        rintro rfl
        exact exec_mrs_cpsr hpc hc hrd
      case noSpsr =>
        rintro rfl hmode
        exact exec_mrs_no_spsr hc hrd (s.spsr.get_of_no_spsr hmode)
      case spsr =>
        rintro rfl - x hx
        exact exec_mrs_spsr hpc hc hrd hx

end Machine
end Sys2Proof
end

section
/-! Where a computation of an instruction can end, as a calculus: a postcondition for its value, and which of the two
exceptions it may raise. -/

namespace Sys2Proof.Machine

/-- A computation that goes on gives a value with `post`; it raises a Data Abort only if `da` and an Undefined
Instruction only if `ud`. A fault or a refusal is always allowed: nothing follows it. -/
def Exec.Ends {α : Type} (da ud : Prop) (post : α → Prop) : Exec α → Prop
  | .ok a => post a
  | .error .dataAbort => da
  | .error .undefinedInstruction => ud
  | .error (.fault _) => True
  | .error (.refuse _) => True

/-- A computation raises no exception but those allowed. -/
abbrev Exec.Raises {α : Type} (da ud : Prop) (x : Exec α) : Prop := Exec.Ends da ud (fun _ => True) x

namespace Exec

section
variable {α β : Type} {da ud : Prop} {post : α → Prop}

theorem ends_iff (x : Exec α) :
    Ends da ud post x ↔ (∀ a, x = .ok a → post a) ∧ (x = .error .dataAbort → da) ∧
      (x = .error .undefinedInstruction → ud) := by
  rcases x with e | a
  · cases e <;> simp [Ends]
  · simp [Ends]

theorem raises_iff (x : Exec α) :
    Raises da ud x ↔ (x = .error .dataAbort → da) ∧ (x = .error .undefinedInstruction → ud) := by
  simp [ends_iff]

/-- The two parts of a postcondition can be shown apart. -/
theorem ends_of_raises {x : Exec α} (hx : Raises da ud x) (h : ∀ a, x = .ok a → post a) : Ends da ud post x :=
  (ends_iff x).mpr ⟨h, (raises_iff x).mp hx⟩

/-- The rule of sequence: what follows may use that the first part answered. -/
theorem ends_bind {x : Exec β} {f : β → Exec α} (hx : Raises da ud x) (h : ∀ b, x = .ok b → Ends da ud post (f b)) :
    Ends da ud post (x >>= f) := by
  obtain e | b := x
  · cases e with
    | dataAbort => exact hx
    | undefinedInstruction => exact hx
    | fault f => exact trivial
    | refuse r => exact trivial
  · exact h b rfl

theorem ends_ite {p : Prop} [Decidable p] {x y : Exec α} (hx : p → Ends da ud post x) (hy : ¬ p → Ends da ud post y) :
    Ends da ud post (if p then x else y) := by
  split
  next h => exact hx h
  next h => exact hy h

theorem raises_pure (a : α) : Raises da ud (pure a : Exec α) := trivial

theorem ends_unpredictable (why : Unpredictable) : Ends da ud post (unpredictable why) := trivial

theorem raises_require (b : Bool) (why : Unpredictable) : Raises da ud (require b why) := by
  cases b <;> trivial

/-- A check before the rest of a computation. -/
theorem ends_require_bind {b : Bool} {why : Unpredictable} {f : Unit → Exec α} (h : b = true → Ends da ud post (f ())) :
    Ends da ud post (require b why >>= f) :=
  ends_bind (raises_require b why) fun _ hb => h ((require_ok b why).mp hb)

end

/-! ### What each shared operation raises -/

section
variable {da ud : Prop} (s : State)

theorem raises_currentSpsr : Raises da ud (currentSpsr s) := by
  unfold currentSpsr
  split <;> trivial

theorem raises_returnCpsr (x : Word) : Raises da ud (returnCpsr s x) := by
  unfold returnCpsr
  exact ends_ite (fun _ => trivial) fun _ => ends_ite (fun _ => trivial) fun _ => trivial

theorem raises_advance : Raises da ud (advance s) := by
  unfold advance
  exact ends_ite (fun _ => trivial) fun _ => trivial

theorem raises_branchArm (v : Word) : Raises da ud (branchArm s v) := by
  unfold branchArm
  exact ends_ite (fun _ => trivial) fun _ => trivial

theorem raises_branchExchange (v : Word) : Raises da ud (branchExchange s v) := by
  unfold branchExchange
  exact ends_ite (fun _ => trivial) fun _ => trivial

theorem raises_branchTo (v : Int) : Raises da ud (branchTo s v) := by
  unfold branchTo
  exact ends_ite (fun _ => trivial) fun _ => trivial

theorem raises_requireNoPc (rs : List Reg) : Raises da ud (requireNoPc rs) := raises_require _ _

theorem raises_checkIndexing (writes : Bool) (rn : Reg) (rm : Option Reg) :
    Raises da ud (checkIndexing writes rn rm) :=
  ends_require_bind fun _ => ends_require_bind fun _ => raises_require _ _

theorem raises_address2 (ix : Index2) (up : Bool) (rn : Reg) (off : Offset2) :
    Raises da ud (address2 s ix up rn off) :=
  ends_bind (raises_checkIndexing _ _ _) fun _ _ => raises_pure _

theorem raises_address3 (ix : Index3) (up : Bool) (rn : Reg) (off : Offset3) :
    Raises da ud (address3 s ix up rn off) :=
  ends_bind (by cases ix <;> trivial) fun _ _ => ends_bind (raises_checkIndexing _ _ _) fun _ _ => raises_pure _

theorem raises_address5 (am : Mode5) (rn : Reg) (off : BitVec 8) : Raises da ud (address5 s am rn off) :=
  ends_require_bind fun _ => by cases am <;> trivial

theorem raises_checkDest (writes : Bool) (rn rd : Reg) : Raises da ud (checkDest writes rn rd) :=
  ends_require_bind fun _ => raises_require _ _

theorem raises_checkList (rn : Reg) (list : BitVec 16) : Raises da ud (checkList rn list) :=
  ends_require_bind fun _ => raises_require _ _

theorem raises_checkPair (rn rd : Reg) : Raises da ud (checkPair rn rd) :=
  ends_require_bind fun _ => raises_require _ _

theorem raises_checkSwap (rn rd rm : Reg) : Raises da ud (checkSwap rn rd rm) :=
  ends_bind (raises_requireNoPc _) fun _ _ => raises_require _ _

theorem raises_checkDouble (hud : ud) (writes : Bool) (rn rd : Reg) : Raises da ud (checkDouble writes rn rd) := by
  unfold checkDouble
  exact ends_ite (fun _ => hud) fun _ => ends_require_bind fun _ => raises_require _ _

theorem raises_askCoproc (hud : ud) (cp : BitVec 4) (w : Word) : Raises da ud (askCoproc s cp w) := by
  unfold askCoproc
  split
  · unfold absentCoproc
    split
    · trivial
    · exact hud
  · split
    · exact hud
    · trivial

end

/-! ### Accesses, which may raise a Data Abort -/

section
variable {da ud : Prop} (hda : da) (s : State) (a : Word)
include hda

theorem raises_memByte : Raises da ud (memByte s a) := by
  unfold memByte
  split
  · split <;> trivial
  · exact hda

theorem raises_memHalf : Raises da ud (memHalf s a) :=
  ends_bind (raises_memByte hda s a) fun _ _ => ends_bind (raises_memByte hda s _) fun _ _ => raises_pure _

theorem raises_memWord : Raises da ud (memWord s a) :=
  ends_bind (raises_memByte hda s a) fun _ _ => ends_bind (raises_memByte hda s _) fun _ _ =>
    ends_bind (raises_memByte hda s _) fun _ _ => ends_bind (raises_memByte hda s _) fun _ _ => raises_pure _

theorem raises_memWords (n : Nat) : Raises da ud (memWords s a n) := by
  induction n generalizing a with
  | zero => trivial
  | succ n ih => exact ends_bind (raises_memWord hda s a) fun _ _ => ends_bind (ih _) fun _ _ => raises_pure _

theorem raises_memWrite (vs : List Byte) : Raises da ud (memWrite s a vs) := by
  unfold memWrite
  exact ends_ite (fun _ => trivial) fun _ => hda

theorem raises_memWriteWord (v : Word) : Raises da ud (memWriteWord s a v) := raises_memWrite hda s a _

theorem raises_checkWords (n : Nat) : Raises da ud (checkWords s a n) := by
  unfold checkWords
  exact ends_ite (fun _ => trivial) fun _ => hda

theorem raises_loadWord : Raises da ud (loadWord s a) := by
  unfold loadWord
  exact ends_ite (fun _ => raises_memWord hda s a) fun _ => ends_ite (fun _ => hda) fun _ =>
    ends_ite (fun _ => raises_memWord hda s a) fun _ => ends_bind (raises_memWord hda s _) fun _ _ => raises_pure _

theorem raises_storeWordAddress : Raises da ud (storeWordAddress s a) := by
  unfold storeWordAddress
  exact ends_ite (fun _ => trivial) fun _ => ends_ite (fun _ => hda) fun _ => ends_ite (fun _ => trivial) fun _ =>
    trivial

theorem raises_loadHalf : Raises da ud (loadHalf s a) := by
  unfold loadHalf
  exact ends_ite (fun _ => raises_memHalf hda s a) fun _ => ends_ite (fun _ => hda) fun _ =>
    ends_ite (fun _ => raises_memHalf hda s a) fun _ => trivial

theorem raises_checkHalfStore : Raises da ud (checkHalfStore s a) := by
  unfold checkHalfStore
  exact ends_ite (fun _ => trivial) fun _ => ends_ite (fun _ => hda) fun _ => ends_ite (fun _ => trivial) fun _ =>
    trivial

theorem raises_checkDoubleAligned : Raises da ud (checkDoubleAligned s a) := by
  unfold checkDoubleAligned
  exact ends_ite (fun _ => trivial) fun _ => ends_ite (fun _ => hda) fun _ => trivial

theorem raises_loadDouble : Raises da ud (loadDouble s a) :=
  ends_bind (raises_checkDoubleAligned hda s a) fun _ _ => ends_bind (raises_checkWords hda s a 2) fun _ _ =>
    ends_bind (raises_memWord hda s _) fun _ _ => ends_bind (raises_memWord hda s _) fun _ _ => raises_pure _

theorem raises_checkExclusive : Raises da ud (checkExclusive s a) := by
  unfold checkExclusive
  exact ends_ite (fun _ => trivial) fun _ => ends_ite (fun _ => hda) fun _ => trivial

theorem raises_swapAddress : Raises da ud (swapAddress s a) := by
  unfold swapAddress
  exact ends_ite (fun _ => trivial) fun _ => ends_ite (fun _ => hda) fun _ => trivial

theorem raises_multipleStart : Raises da ud (multipleStart s a) := by
  unfold multipleStart
  exact ends_ite (fun _ => trivial) fun _ => ends_ite (fun _ => hda) fun _ => trivial

theorem raises_blockStart (n : Nat) : Raises da ud (blockStart s a n) := by
  unfold blockStart
  exact ends_bind (raises_multipleStart hda s a) fun _ _ => ends_ite (fun _ => trivial) fun _ =>
    ends_bind (raises_checkWords hda s _ _) fun _ _ => raises_pure _

omit a in
theorem raises_loadBlock (am : Mode4) (rn : Reg) (list : BitVec 16) : Raises da ud (loadBlock s am rn list) :=
  ends_bind (raises_blockStart hda s _ _) fun _ _ => ends_bind (raises_memWords hda s _ _) fun _ _ => raises_pure _

omit a in
theorem raises_storeBlock (am : Mode4) (rn : Reg) (list : BitVec 16) (vs : List Word) :
    Raises da ud (storeBlock s am rn list vs) :=
  ends_bind (raises_blockStart hda s _ _) fun _ _ => raises_pure _

end

end Exec

end Sys2Proof.Machine
end

section
/-! What an instruction may change, and the relation between the state before and after: reflexive, transitive, and
kept by every update of the state that the tables of Safety.lean allow. -/

namespace Sys2Proof.Machine

/-! ### Bits of a status register -/

theorem getLsbD_withBit {w : Nat} (x : BitVec w) (k j : Nat) (b : Bool) :
    (withBit x k b).getLsbD j = if k = j then decide (k < w) && b else x.getLsbD j := by
  by_cases hj : j < w
  · by_cases hk : k = j
    · subst hk
      cases b <;> simp [withBit, hj]
    · cases b <;> simp [withBit, hj, hk, Ne.symm hk]
  · rw [BitVec.getLsbD_of_ge _ _ (not_lt.mp hj), BitVec.getLsbD_of_ge _ _ (not_lt.mp hj)]
    split
    next hk => simp [hk, hj]
    next => rfl

theorem withBit_and_not {w : Nat} (x m : BitVec w) (k : Nat) (b : Bool) (h : m.getLsbD k = true) :
    withBit x k b &&& ~~~ m = x &&& ~~~ m := by
  apply BitVec.eq_of_getLsbD_eq
  intro j hj
  by_cases hk : k = j
  · subst hk
    simp [h]
  · cases b <;> simp [withBit, hj, Ne.symm hk]

theorem withField_and_not {w n : Nat} (x m : BitVec w) (lo : Nat) (v : BitVec n)
    (h : ∀ j < n, m.getLsbD (lo + j) = true) : withField x lo v &&& ~~~ m = x &&& ~~~ m := by
  apply BitVec.eq_of_getLsbD_eq
  intro j hj
  cases hm : m.getLsbD j with
  | true => simp [hm]
  | false =>
    by_cases hlo : j < lo
    · simp [withField, hlo, hj]
    · have hn : ¬ j - lo < n := fun hlt => by
        rw [← Nat.add_sub_cancel' (not_lt.mp hlo), h _ hlt] at hm
        cases hm
      have hv : v.getLsbD (j - lo) = false := BitVec.getLsbD_of_ge v _ (not_lt.mp hn)
      simp [withField, hlo, hn, hv, hj]

/-- Words that agree outside a mask agree on every set of bits disjoint from it. -/
theorem and_eq_of_and_not_eq {w : Nat} {x y m k : BitVec w} (hmk : m &&& k = 0) (h : x &&& ~~~ m = y &&& ~~~ m) :
    x &&& k = y &&& k := by
  apply BitVec.eq_of_getLsbD_eq
  intro j hj
  have hb := congrArg (fun z => z.getLsbD j) h
  have hc := congrArg (fun z => z.getLsbD j) hmk
  simp only [BitVec.getLsbD_and, BitVec.getLsbD_not, hj, decide_true, Bool.true_and, BitVec.ofNat_eq_ofNat,
    BitVec.getLsbD_zero] at hb hc ⊢
  cases hm : m.getLsbD j <;> cases hn : k.getLsbD j <;> simp_all

/-! ### The bytes a store covers -/

theorem Word.add_one_add_ofNat (a : Word) (i : Nat) : a + 1 + BitVec.ofNat 32 i = a + BitVec.ofNat 32 (i + 1) := by
  rw [BitVec.ofNat_add, BitVec.add_assoc, BitVec.add_comm (BitVec.ofNat 32 i)]
  rfl

theorem Word.add_four_add_ofNat (a : Word) (i : Nat) : a + 4 + BitVec.ofNat 32 i = a + BitVec.ofNat 32 (4 + i) := by
  rw [BitVec.ofNat_add, BitVec.add_assoc]
  rfl

/-- The `n` bytes from `a` on are among those of a range. -/
def Covers (range : Option (Word × Nat)) (a : Word) (n : Nat) : Prop :=
  ∃ base m, range = some (base, m) ∧ ∀ k < n, ∃ j < m, a + BitVec.ofNat 32 k = base + BitVec.ofNat 32 j

theorem Covers.ne_none {range : Option (Word × Nat)} {a : Word} {n : Nat} (h : Covers range a n) : range ≠ none := by
  obtain ⟨base, m, rfl, -⟩ := h
  exact Option.some_ne_none _

theorem Covers.of_eq {range : Option (Word × Nat)} {a : Word} {n : Nat} (h : range = some (a, n)) : Covers range a n :=
  ⟨a, n, h, fun k hk => ⟨k, hk, rfl⟩⟩

theorem Covers.mono {range : Option (Word × Nat)} {a : Word} {n m : Nat} (h : Covers range a n) (hm : m ≤ n) :
    Covers range a m := by
  obtain ⟨base, size, hr, hk⟩ := h
  exact ⟨base, size, hr, fun k hkm => hk k (lt_of_lt_of_le hkm hm)⟩

/-- Past its first word a covered run is still covered. -/
theorem Covers.add_four {range : Option (Word × Nat)} {a : Word} {n : Nat} (h : Covers range a (4 + n)) :
    Covers range (a + 4) n := by
  obtain ⟨base, size, hr, hk⟩ := h
  refine ⟨base, size, hr, fun k hkn => ?_⟩
  rw [Word.add_four_add_ofNat]
  exact hk (4 + k) (by omega)

theorem Covers.ne_of_outside {range : Option (Word × Nat)} {a b : Word} {n k : Nat} (h : Covers range a n)
    (hb : outside b range) (hk : k < n) : a + BitVec.ofNat 32 k ≠ b := by
  obtain ⟨base, size, hr, hc⟩ := h
  obtain ⟨j, hj, e⟩ := hc k hk
  rw [e]
  exact (hb base size hr j hj).symm

theorem State.mem_written_putBytes (s : State) (a : Word) (vs : List Byte) (x : Nat) :
    x ∈ (s.putBytes a vs).written ↔ x ∈ s.written ∨ ∃ i < vs.length, x = (a + BitVec.ofNat 32 i).toNat := by
  induction vs generalizing s a with
  | nil => simp [State.putBytes]
  | cons v vs ih =>
    simp only [State.putBytes, ih, State.putByte_written, AddrSet.mem_insert, List.length_cons, Word.add_one_add_ofNat]
    constructor
    · rintro ((rfl | h) | ⟨i, hi, rfl⟩)
      · exact .inr ⟨0, by omega, by simp⟩
      · exact .inl h
      · exact .inr ⟨i + 1, by omega, rfl⟩
    · rintro (h | ⟨i, hi, rfl⟩)
      · exact .inl (.inr h)
      · cases i with
        | zero => exact .inl (.inl (by simp))
        | succ i => exact .inr ⟨i, by omega, rfl⟩

theorem State.mem_written_store (s : State) (a : Word) (vs : List Byte) (x : Nat) :
    x ∈ (s.store a vs).written ↔ x ∈ s.written ∨ ∃ i < vs.length, x = (a + BitVec.ofNat 32 i).toNat := by
  simp [State.store, State.mem_written_putBytes]

theorem State.writtenHeld_putBytes (s : State) (a : Word) (vs : List Byte) (h : s.writtenHeld) :
    (s.putBytes a vs).writtenHeld := by
  induction vs generalizing s a with
  | nil => exact h
  | cons v vs ih =>
    refine ih _ _ fun x hx => ?_
    rw [State.putByte_mem, Memory.read_write]
    rcases (AddrSet.mem_insert _ _ _).mp hx with rfl | hx
    · simp
    · split
      · rfl
      · exact h x hx

theorem State.writtenHeld_store (s : State) (a : Word) (vs : List Byte) (h : s.writtenHeld) :
    (s.store a vs).writtenHeld := by
  have hp := s.writtenHeld_putBytes a vs h
  simpa [State.writtenHeld, State.store] using hp

/-! ### The marks of this processor -/

/-- A monitor from which marks are only removed has no more marks of this processor. -/
theorem ownMarks_filter_le (l : List GlobalMark) (p : GlobalMark → Bool) :
    ((l.filter p).filter (fun g => g.pid == 0)).length ≤ (l.filter (fun g => g.pid == 0)).length := by
  rw [List.filter_comm]
  exact List.length_filter_le _ _

theorem State.ownMarkUnique_clearOthers (s : State) (a : Word) (n : Nat) (h : s.ownMarkUnique) :
    (s.clearOthers a n).ownMarkUnique :=
  le_trans (ownMarks_filter_le _ _) h

theorem State.ownMarkUnique_clearOnStore (s : State) (a : Word) (n : Nat) (h : s.ownMarkUnique) :
    (s.clearOnStore a n).ownMarkUnique := by
  unfold State.clearOnStore
  split
  · exact s.ownMarkUnique_clearOthers a n h
  · exact h

theorem State.ownMarkUnique_store (s : State) (a : Word) (vs : List Byte) (h : s.ownMarkUnique) :
    (s.store a vs).ownMarkUnique :=
  State.ownMarkUnique_clearOnStore _ _ _ (by simpa [State.ownMarkUnique] using h)

theorem State.ownMarkUnique_markGlobal (s : State) (a : Word) (h : s.ownMarkUnique) :
    (s.markGlobal a).ownMarkUnique := by
  unfold State.markGlobal
  split
  · have hnone : (s.globalMonitor.filter (fun g => g.pid != 0)).filter (fun g => g.pid == 0) = [] := by
      simp [List.filter_filter]
    simp [State.ownMarkUnique, hnone]
  · exact h

theorem State.ownMarkUnique_clearAfterStrex (s : State) (a : Word) (h : s.ownMarkUnique) :
    (s.clearAfterStrex a).ownMarkUnique :=
  le_trans (ownMarks_filter_le _ _) (s.ownMarkUnique_clearOthers a 4 h)

/-! ### What an instruction may change -/

/-- What may change: registers, bits of the CPSR, the SPSR of a mode, a run of bytes, a coprocessor, the monitors, the
hazard of R630, the count of free values. -/
structure Effect where
  regs : List PhysReg
  cpsr : Word
  spsr : Option Mode
  bytes : Option (Word × Nat)
  coproc : Option (BitVec 4)
  marks : Bool
  hazard : Bool
  free : Bool

/-- What the tables of Safety.lean allow an instruction in a state. -/
def effectOf (i : Instr) (s : State) : Effect where
  regs := destPhys i s
  cpsr := cpsrWritten i s
  spsr := if writesSpsr i then some s.mode else none
  bytes := storeRange i s
  coproc := coprocOf i
  marks := writesLocalMonitor i
  hazard := armsHazard i
  free := drawsFree i s

/-- `t` differs from `s` only where `e` allows it, pc included; and what every store and mark keeps is kept. -/
structure Within (e : Effect) (s t : State) : Prop where
  pc : t.pc = s.pc := by simp
  regs : ∀ p ∉ e.regs, t.readPhys p = s.readPhys p := by simp [State.readPhys]
  cpsr : t.cpsr &&& ~~~ e.cpsr = s.cpsr &&& ~~~ e.cpsr := by simp
  sticky : e.cpsr = 0x08000000 → s.flagQ = true → t.flagQ = true := by simp [State.flagQ]
  spsr : ∀ m, e.spsr ≠ some m → t.spsr.get m = s.spsr.get m := by simp
  bytes : ∀ a, outside a e.bytes → t.byteAt a = s.byteAt a ∧ (a.toNat ∈ t.written ↔ a.toNat ∈ s.written) := by
    simp [State.byteAt]
  written : e.bytes = none → t.written = s.written := by simp
  coproc : ∀ cp : BitVec 4, e.coproc ≠ some cp → t.coproc[cp.toFin] = s.coproc[cp.toFin] := by simp
  localMonitor : e.marks = false → t.localMonitor = s.localMonitor := by simp
  globalMonitor : e.marks = false → e.bytes = none → t.globalMonitor = s.globalMonitor := by simp
  hazard : e.hazard = false → t.bankHazard = s.bankHazard := by simp
  hazardV6 : s.isV6 = true → t.bankHazard = s.bankHazard := by simp
  hazardArmed : t.bankHazard = s.bankHazard ∨ t.bankHazard = .armed := by simp
  free : e.free = false → t.freeCount = s.freeCount := by simp
  params : t.params = s.params := by simp
  irqLine : t.irqLine = s.irqLine := by simp
  fiqLine : t.fiqLine = s.fiqLine := by simp
  abortLine : t.abortLine = s.abortLine := by simp
  canonical : s.canonical → t.canonical := by simp [State.canonical]
  writtenHeld : s.writtenHeld → t.writtenHeld := by simp [State.writtenHeld]
  ownMark : s.ownMarkUnique → t.ownMarkUnique := by simp [State.ownMarkUnique]

namespace Within

variable {e : Effect} {s t u : State}

theorem refl (e : Effect) (s : State) : Within e s s where

theorem trans (h : Within e s t) (k : Within e t u) : Within e s u where
  pc := k.pc.trans h.pc
  regs p hp := (k.regs p hp).trans (h.regs p hp)
  cpsr := k.cpsr.trans h.cpsr
  sticky hq hs := k.sticky hq (h.sticky hq hs)
  spsr m hm := (k.spsr m hm).trans (h.spsr m hm)
  bytes a ha := ⟨(k.bytes a ha).1.trans (h.bytes a ha).1, (k.bytes a ha).2.trans (h.bytes a ha).2⟩
  written hb := (k.written hb).trans (h.written hb)
  coproc cp hc := (k.coproc cp hc).trans (h.coproc cp hc)
  localMonitor hm := (k.localMonitor hm).trans (h.localMonitor hm)
  globalMonitor hm hb := (k.globalMonitor hm hb).trans (h.globalMonitor hm hb)
  hazard hh := (k.hazard hh).trans (h.hazard hh)
  hazardV6 hv := (k.hazardV6 (by rw [State.isV6, h.params]; exact hv)).trans (h.hazardV6 hv)
  hazardArmed := by
    rcases k.hazardArmed with hk | hk
    · rw [hk]
      exact h.hazardArmed
    · exact .inr hk
  free hf := (k.free hf).trans (h.free hf)
  params := k.params.trans h.params
  irqLine := k.irqLine.trans h.irqLine
  fiqLine := k.fiqLine.trans h.fiqLine
  abortLine := k.abortLine.trans h.abortLine
  canonical hc := k.canonical (h.canonical hc)
  writtenHeld hw := k.writtenHeld (h.writtenHeld hw)
  ownMark ho := k.ownMark (h.ownMark ho)

theorem arch_eq (h : Within e s t) : t.arch = s.arch := by rw [State.arch, State.arch, h.params]

/-! ### One update at a time -/

theorem writePhys {p : PhysReg} (v : Word) (hp : p ∈ e.regs) : Within e s (s.writePhys p v) where
  regs q hq := by
    rw [State.readPhys_writePhys, if_neg]
    rintro rfl
    exact hq hp

theorem writeRegIn {m : Mode} {r : Reg} (v : Word) (hr : ∀ p, physReg m r = some p → p ∈ e.regs) :
    Within e s (s.writeRegIn m r v) := by
  unfold State.writeRegIn
  split
  next p hp => exact writePhys v (hr p hp)
  next => exact refl e s

theorem setCpsr {x : Word} (hx : x &&& ~~~ e.cpsr = s.cpsr &&& ~~~ e.cpsr) (hq : e.cpsr ≠ 0x08000000) :
    Within e s (s.setCpsr x) where
  cpsr := hx
  sticky h := absurd h hq

theorem stickQ (b : Bool) (hm : e.cpsr.getLsbD 27 = true) : Within e s (s.stickQ b) := by
  cases b with
  | false => exact refl e s
  | true =>
    exact {
      cpsr := withBit_and_not _ _ 27 true hm
      sticky := fun _ _ => by simp [State.flagQ, State.stickQ, State.setCpsrBit, State.setCpsr, withBit] }

theorem setSpsr {m : Mode} (v : Word) (hm : e.spsr = some m) : Within e s { s with spsr := s.spsr.set m v } where
  spsr k hk := by
    have hne : m ≠ k := fun h => hk (h ▸ hm)
    cases m <;> cases k <;> simp_all [SpsrFile.get, SpsrFile.set]
  regs _ _ := rfl
  sticky _ h := h
  bytes _ _ := ⟨rfl, Iff.rfl⟩
  canonical h := h
  writtenHeld h := h
  ownMark h := h

theorem drawn (hf : e.free = true) : Within e s s.drawn where
  free h := by simp [hf] at h

theorem armHazard (hh : e.hazard = true) : Within e s s.armHazard where
  hazard h := by simp [hh] at h
  hazardV6 hv := by simp [State.armHazard, hv]
  hazardArmed := by
    unfold State.armHazard
    split
    · exact .inl rfl
    · exact .inr rfl

theorem setCoproc {cp : BitVec 4} (v : CoprocUnit) (hc : e.coproc = some cp) : Within e s (s.setCoproc cp v) where
  coproc k hk := by
    have hne : cp.toFin ≠ k.toFin := fun h => hk (by rw [hc, BitVec.eq_of_toFin_eq h])
    simp only [State.setCoproc, Fin.getElem_fin]
    exact Vector.getElem_set_ne _ _ (fun h => hne (Fin.ext h))

theorem store {a : Word} {vs : List Byte} (hc : Covers e.bytes a vs.length) : Within e s (s.store a vs) where
  bytes b hb := by
    refine ⟨s.byteAt_store_other a b vs fun i hi => hc.ne_of_outside hb hi, ?_⟩
    rw [State.mem_written_store]
    refine or_iff_left ?_
    rintro ⟨i, hi, hab⟩
    exact hc.ne_of_outside hb hi (BitVec.eq_of_toNat_eq hab.symm)
  written h := absurd h hc.ne_none
  globalMonitor _ h := absurd h hc.ne_none
  canonical h := ⟨s.wf_store a vs h.1, s.wf_written_store a vs h.2⟩
  writtenHeld := s.writtenHeld_store a vs
  ownMark := s.ownMarkUnique_store a vs

theorem storeWord {a : Word} (v : Word) (hc : Covers e.bytes a 4) : Within e s (s.storeWord a v) := by
  have hl : (wordBytes s.bigEndianData v).length = 4 := by
    unfold wordBytes
    split <;> rfl
  exact store (hl ▸ hc)

theorem storeWords {a : Word} {vs : List Word} (hc : Covers e.bytes a (4 * vs.length)) :
    Within e s (s.storeWords a vs) := by
  induction vs generalizing s a with
  | nil => exact refl e s
  | cons v vs ih =>
    rw [List.length_cons, Nat.mul_add, mul_one, add_comm] at hc
    exact (storeWord v (hc.mono (by omega))).trans (ih hc.add_four)

theorem markLocal (a : Word) (hm : e.marks = true) : Within e s (s.markLocal a) where
  localMonitor h := by simp [hm] at h

theorem markGlobal (a : Word) (hm : e.marks = true) : Within e s (s.markGlobal a) where
  globalMonitor h := by simp [hm] at h
  ownMark := s.ownMarkUnique_markGlobal a

theorem openLocal (hm : e.marks = true) : Within e s s.openLocal where
  localMonitor h := by simp [hm] at h

theorem clearAfterStrex (a : Word) (hm : e.marks = true) : Within e s (s.clearAfterStrex a) where
  globalMonitor h := by simp [hm] at h
  ownMark := s.ownMarkUnique_clearAfterStrex a

end Within

end Sys2Proof.Machine
end

section
/-! What an instruction that goes on has done: it ended within the tables of Safety.lean, or it took one of its
exceptions. -/

namespace Sys2Proof.Machine

/-! ### Word-aligned addresses -/

theorem low_two_eq_zero_iff (a : Word) : a.extractLsb' 0 2 = 0 ↔ a.toNat % 4 = 0 := by
  rw [← BitVec.toNat_inj]
  simp

theorem low_two_add_four {a : Word} (h : a.extractLsb' 0 2 = 0) : (a + 4).extractLsb' 0 2 = 0 := by
  rw [low_two_eq_zero_iff] at h ⊢
  have h4 : (4 : Word).toNat = 4 := rfl
  rw [BitVec.toNat_add, h4]
  omega

theorem low_two_and_wordMask (a : Word) : (a &&& 0xFFFFFFFC).extractLsb' 0 2 = 0 := by
  apply BitVec.eq_of_getLsbD_eq
  intro j hj
  interval_cases j <;> simp

/-- A target that selects ARM state and is no odd halfword is word-aligned. -/
theorem low_two_and_halfMask {v : Word} (h2 : v.extractLsb' 0 2 ≠ 2) (h0 : v.getLsbD 0 = false) :
    (v &&& 0xFFFFFFFE).extractLsb' 0 2 = 0 := by
  have h1 : v.getLsbD 1 = false := by
    by_contra h
    refine h2 (BitVec.eq_of_getLsbD_eq fun j hj => ?_)
    interval_cases j
    · simpa using h0
    · simpa using h
  apply BitVec.eq_of_getLsbD_eq
  intro j hj
  interval_cases j
  · simp
  · simpa using h1

/-! ### How an instruction ends -/

/-- `t` is a state the instruction `i` may end in from `s` without an exception. -/
structure Ended (i : Instr) (s t : State) : Prop where
  within : Within (effectOf i s) s { t with pc := s.pc }
  user : s.mode = .usr → t.cpsr &&& 0x1DF = s.cpsr &&& 0x1DF
  legalMode : s.legalMode → t.legalMode
  legalPsrs : i.existsIn s.arch = true → s.legalPsrs → t.legalPsrs
  pcAligned : s.inArm → t.pcAligned

/-- A body of `i` ends as its tables say. -/
abbrev EndsAs (i : Instr) (s : State) (body : Exec State) : Prop :=
  Exec.Ends (Exception.dataAbort ∈ mayTake i) (Exception.undefinedInstruction ∈ mayTake i) (Ended i s) body

/-- The state from which `i` takes its exception: that before it, but for what an aborted LDREX may mark. -/
def AbortsFrom (i : Instr) (s a : State) : Prop :=
  a = s ∨ ∃ c rn rd, i = .ldrex c rn rd ∧ a = abortedLdrex s (s.readReg rn)

/-- An outcome of `i` that goes on is an end or one of the exceptions of `i`. -/
def Meets (i : Instr) (s : State) (o : Out) : Prop :=
  ∀ t, o = .next t → Ended i s t ∨ ∃ e ∈ mayTake i, ∃ a, AbortsFrom i s a ∧ takeException e a = .next t

/-! ### Instructions that keep the mode -/

/-- The bits `i` may write are not the mode, A, I or F, nor, at a version that has `i`, unallocated ones, and it writes
no SPSR. -/
structure KeepsMode (i : Instr) (s : State) : Prop where
  mode : cpsrWritten i s &&& 0x1DF = 0
  psr : i.existsIn s.arch = true → cpsrWritten i s &&& (psrMasks s.arch).unalloc = 0
  spsr : writesSpsr i = false

section
variable {i : Instr} {s t u : State}

/-- Words that agree on the mode field, among others, have the same mode. -/
theorem psrMode_eq_of_and {x y k : Word} (hk : psrMode k = 0x1F) (h : x &&& k = y &&& k) : psrMode x = psrMode y := by
  have all : ∀ m : BitVec 5, m &&& 0x1F = m := by decide
  have he := congrArg psrMode h
  rwa [psrMode, psrMode, BitVec.extractLsb'_and, BitVec.extractLsb'_and, ← psrMode, ← psrMode, ← psrMode, hk, all,
    all] at he

/-- With the mode and the SPSRs kept, only the target of the pc is left to check. -/
theorem Ended.of_keepsMode (hk : KeepsMode i s) (hw : Within (effectOf i s) s u) {pc : Word}
    (hpc : s.inArm → ({ u with pc := pc } : State).pcAligned) : Ended i s { u with pc := pc } where
  within := by
    have he : ({ u with pc := s.pc } : State) = u := by rw [← hw.pc]
    exact he ▸ hw
  user _ := and_eq_of_and_not_eq hk.mode hw.cpsr
  legalMode h := by
    unfold State.legalMode at h ⊢
    rwa [show psrMode ({ u with pc := pc } : State).cpsr = psrMode s.cpsr from
      psrMode_eq_of_and rfl (and_eq_of_and_not_eq hk.mode hw.cpsr)]
  legalPsrs hex h := by
    obtain ⟨hc, hsp⟩ := h
    have harch : ({ u with pc := pc } : State).arch = s.arch := hw.arch_eq
    refine ⟨?_, fun m x hx => ?_⟩
    · rw [harch]
      exact (and_eq_of_and_not_eq (hk.psr hex) hw.cpsr).trans hc
    · rw [harch]
      refine hsp m x ?_
      rw [← hx]
      exact (hw.spsr m (by simp [effectOf, hk.spsr])).symm
  pcAligned := hpc

theorem Ended.of_aligned (hq : KeepsMode i s) (hw : Within (effectOf i s) s u) {pc : Word}
    (hpc : s.inArm → pc.extractLsb' 0 2 = 0) : Ended i s { u with pc := pc } :=
  .of_keepsMode hq hw fun harm _ _ => hpc harm

/-- The usual end: the pc moves on. -/
theorem endsAs_advance (hq : KeepsMode i s) (hw : Within (effectOf i s) s u) : EndsAs i s (advance u) := by
  refine Exec.ends_of_raises (Exec.raises_advance u) fun t ht => ?_
  obtain ⟨-, rfl⟩ := (advance_ok u t).mp ht
  exact .of_aligned hq hw fun harm => low_two_add_four (by rw [hw.pc]; exact harm.2.2)

theorem endsAs_branchArm (hq : KeepsMode i s) (hw : Within (effectOf i s) s u) (v : Word) :
    EndsAs i s (branchArm u v) := by
  refine Exec.ends_of_raises (Exec.raises_branchArm u v) fun t ht => ?_
  obtain ⟨hv, rfl⟩ := (branchArm_ok u t v).mp ht
  exact .of_aligned hq hw fun _ => hv

/-- A condition that fails moves the pc on, whatever the instruction. -/
theorem Ended.passed_over (i : Instr) (s : State) : Ended i s s.past where
  within := Within.refl _ s
  user _ := rfl
  legalMode h := h
  legalPsrs _ h := h
  pcAligned harm _ _ := low_two_add_four harm.2.2

theorem meets_finishFrom {a : State} (ha : AbortsFrom i s a) {body : Exec State} (h : EndsAs i s body) :
    Meets i s (finishFrom a s body) := by
  intro t ht
  obtain ⟨hok, hda, hud⟩ := (Exec.ends_iff body).mp h
  rcases (finishFrom_next a s t body).mp ht with hb | ⟨hb, he⟩ | ⟨hb, he⟩
  · exact .inl (hok t hb)
  · exact .inr ⟨_, hda hb, a, ha, he⟩
  · exact .inr ⟨_, hud hb, s, .inl rfl, he⟩

theorem meets_finish {body : Exec State} (h : EndsAs i s body) : Meets i s (finish s body) :=
  meets_finishFrom (.inl rfl) h

theorem endsAs_passed_over : EndsAs i s (advance s) := by
  refine Exec.ends_of_raises (Exec.raises_advance s) fun t ht => ?_
  obtain ⟨-, rfl⟩ := (advance_ok s t).mp ht
  exact .passed_over i s

theorem endsAs_conditional {c : Cond} {body : Exec State} (h : EndsAs i s body) : EndsAs i s (conditional c s body) :=
  Exec.ends_ite (fun _ => h) fun _ => endsAs_passed_over

theorem meets_conditional {c : Cond} {body : Exec State} (h : EndsAs i s body) :
    Meets i s (finish s (conditional c s body)) :=
  meets_finish (endsAs_conditional h)

theorem meets_takeException {e : Exception} (he : e ∈ mayTake i) : Meets i s (takeException e s) :=
  fun _ ht => .inr ⟨e, he, s, .inl rfl, ht⟩

end

/-! ### Reading the tables -/

section
variable {i : Instr} {s u : State}

/-- `i` may write register `r` of the current mode. -/
def MayWrite (i : Instr) (s : State) (r : Reg) : Prop := ∀ p, physReg s.mode r = some p → p ∈ (effectOf i s).regs

theorem mayWrite_of_mem {r : Reg} (h : destPhys i s = (destRegs i).filterMap (physReg s.mode)) (hr : r ∈ destRegs i) :
    MayWrite i s r := by
  intro p hp
  simp only [effectOf, h]
  exact List.mem_filterMap.mpr ⟨r, hr, hp⟩

theorem Within.writeReg {e : Effect} {r : Reg} (v : Word) (hr : ∀ p, physReg s.mode r = some p → p ∈ e.regs) :
    Within e s (s.writeReg r v) :=
  writeRegIn v hr

theorem Within.writeBack {e : Effect} {r : Reg} {v : Option Word}
    (hr : v.isSome = true → ∀ p, physReg s.mode r = some p → p ∈ e.regs) : Within e s (s.writeBack r v) := by
  cases v with
  | none => exact refl e s
  | some v => exact writeReg v (hr rfl)

theorem ne_sticky_of_bit31 {x : Word} (h : x.getLsbD 31 = true) : x ≠ 0x08000000 := by
  rintro rfl
  exact absurd h (by decide)

theorem Within.setCpsrBit {e : Effect} {k : Nat} (b : Bool) (hk : e.cpsr.getLsbD k = true) (hq : e.cpsr ≠ 0x08000000) :
    Within e s (s.setCpsrBit k b) :=
  setCpsr (withBit_and_not _ _ k b hk) hq

theorem Within.setNZ {e : Effect} (n z : Bool) (h31 : e.cpsr.getLsbD 31 = true) (h30 : e.cpsr.getLsbD 30 = true) :
    Within e s (s.setNZ n z) :=
  setCpsr (by rw [withBit_and_not _ _ _ _ h30, withBit_and_not _ _ _ _ h31]) (ne_sticky_of_bit31 h31)

theorem Within.setNZCV {e : Effect} (n z c v : Bool) (h31 : e.cpsr.getLsbD 31 = true) (h30 : e.cpsr.getLsbD 30 = true)
    (h29 : e.cpsr.getLsbD 29 = true) (h28 : e.cpsr.getLsbD 28 = true) : Within e s (s.setNZCV n z c v) :=
  setCpsr (by rw [withBit_and_not _ _ _ _ h28, withBit_and_not _ _ _ _ h29, withBit_and_not _ _ _ _ h30,
    withBit_and_not _ _ _ _ h31]) (ne_sticky_of_bit31 h31)

/-- The flags of R52 are no part of the mode nor of the execution state, and every version allocates them. -/
theorem keepsMode_of_flags {m : Word} (h : cpsrWritten i s = m) (hm : m &&& 0x0FFFFFFF = 0)
    (hs : writesSpsr i = false) : KeepsMode i s := by
  have sub : ∀ k : Word, k &&& 0x0FFFFFFF = k → cpsrWritten i s &&& k = 0 := fun k hk => by
    rw [h, ← hk, BitVec.and_comm k, ← BitVec.and_assoc, hm]
    exact BitVec.zero_and
  exact { mode := sub _ (by decide), spsr := hs,
          psr := fun _ => sub _ (by cases s.arch <;> decide) }

theorem keepsMode_of_none (h : cpsrWritten i s = 0) (hs : writesSpsr i = false) : KeepsMode i s :=
  keepsMode_of_flags h (by decide) hs

/-- What only ARMv6 has writes bits only ARMv6 allocates. -/
theorem keepsMode_of_v6 {m : Word} (h : cpsrWritten i s = m) (hm : m &&& 0x07F0FDFF = 0)
    (hex : i.existsIn s.arch = (s.arch == .v6)) (hs : writesSpsr i = false) : KeepsMode i s := by
  have sub : ∀ k : Word, k &&& 0x07F0FDFF = k → cpsrWritten i s &&& k = 0 := fun k hk => by
    rw [h, ← hk, BitVec.and_comm k, ← BitVec.and_assoc, hm]
    exact BitVec.zero_and
  refine { mode := sub _ (by decide), spsr := hs, psr := fun ha => ?_ }
  rw [hex, beq_iff_eq] at ha
  rw [ha]
  exact sub _ (by decide)

end

end Sys2Proof.Machine
end

section
/-! The shared meanings end within the tables: data processing, multiplies, parallel and saturating arithmetic,
branches, status. -/

namespace Sys2Proof.Machine

variable {i : Instr} {s u : State}

/-! ### Exception returns (R590) -/

/-- A return through `returnCpsr` to a pc that is aligned in the ARM state it restores. -/
theorem Ended.of_return {x pc : Word} (hall : cpsrWritten i s = 0xFFFFFFFF) (hs : writesSpsr i = false)
    (hn : s.mode ≠ .usr) (hw : Within (effectOf i s) s u) (hx : x &&& (psrMasks u.arch).unalloc = 0)
    (hmode : (Mode.ofCode (psrMode x)).isSome = true)
    (hpc : x.getLsbD 5 = false → x.getLsbD 24 = false → pc.extractLsb' 0 2 = 0) :
    Ended i s { u.setCpsr x with pc := pc } where
  within := by
    have hm : (effectOf i s).cpsr = 0xFFFFFFFF := hall
    have hset : Within (effectOf i s) u (u.setCpsr x) :=
      .setCpsr (by rw [hm]; simp) (by rw [hm]; decide)
    have he : ({ u.setCpsr x with pc := s.pc } : State) = u.setCpsr x := by rw [← hw.pc]; rfl
    show Within _ s ({ u.setCpsr x with pc := s.pc })
    rw [he]
    exact hw.trans hset
  user h := absurd h hn
  legalMode _ := hmode
  legalPsrs _ h := by
    obtain ⟨-, hsp⟩ := h
    have harch : ({ u.setCpsr x with pc := pc } : State).arch = s.arch := hw.arch_eq
    refine ⟨?_, fun m y hy => ?_⟩
    · rw [harch, ← hw.arch_eq]
      exact hx
    · rw [harch]
      refine hsp m y ?_
      rw [← hy]
      exact (hw.spsr m (by simp [effectOf, hs])).symm
  pcAligned _ hT hJ := hpc hT hJ

theorem mode_ne_usr_of_currentSpsr {x : Word} (h : currentSpsr s = .ok x) : s.mode ≠ .usr := by
  intro hu
  have hx := (currentSpsr_ok s x).mp h
  rw [hu] at hx
  cases hx

theorem endsAs_returnTo (hall : cpsrWritten i s = 0xFFFFFFFF) (hs : writesSpsr i = false) (hn : s.mode ≠ .usr)
    (hw : Within (effectOf i s) s u) (x v : Word) : EndsAs i s (returnCpsr u x >>= fun t => returnTo t v) := by
  refine Exec.ends_bind (Exec.raises_returnCpsr u x) fun t ht => ?_
  obtain ⟨hx, hmode, rfl⟩ := (returnCpsr_ok u t x).mp ht
  unfold returnTo
  refine Exec.ends_ite (fun hT => ?_) fun hT => Exec.ends_of_raises (Exec.raises_branchArm _ v) fun t ht => ?_
  · exact .of_return hall hs hn hw hx hmode fun h5 => absurd (h5.symm.trans hT) (by decide)
  · obtain ⟨hv, rfl⟩ := (branchArm_ok _ t v).mp ht
    exact .of_return hall hs hn hw hx hmode fun _ _ => hv

/-! ### Data processing -/

theorem endsAs_writeAluPc {sf : Bool} (hall : sf = true → cpsrWritten i s = 0xFFFFFFFF)
    (hq : sf = false → KeepsMode i s) (hs : writesSpsr i = false) (v : Word) : EndsAs i s (writeAluPc s sf v) := by
  unfold writeAluPc
  refine Exec.ends_ite (fun hsf => ?_) fun hsf => endsAs_branchArm (hq (by simpa using hsf)) (.refl _ s) v
  refine Exec.ends_bind (Exec.raises_currentSpsr s) fun x hn => Exec.ends_bind (Exec.raises_returnCpsr s x)
    fun t ht => ?_
  obtain ⟨hx, hmode, rfl⟩ := (returnCpsr_ok s t x).mp ht
  have hret := fun hpc => Ended.of_return (pc := v) (hall hsf) hs
    (mode_ne_usr_of_currentSpsr hn) (.refl _ s) hx hmode hpc
  refine Exec.ends_ite (fun _ => Exec.ends_unpredictable _) fun _ => Exec.ends_ite (fun hTJ => ?_) fun _ =>
    Exec.ends_of_raises (Exec.raises_branchArm _ v) fun t ht => ?_
  · refine hret fun h5 h24 => absurd hTJ ?_
    rw [show (s.setCpsr x).bitT = false from h5, show (s.setCpsr x).bitJ = false from h24]
    decide
  · obtain ⟨hv, rfl⟩ := (branchArm_ok _ t v).mp ht
    exact hret fun _ _ => hv

/-- What the tables say of a data-processing instruction whose flags are the bits `m`. -/
structure DpTable (i : Instr) (s : State) (sf : Bool) (rd : Reg) (m : Word) : Prop where
  cpsr : cpsrWritten i s = if sf then (if rd = 15 then 0xFFFFFFFF else m) else 0
  spsr : writesSpsr i = false
  dest : MayWrite i s rd

theorem endsAs_writeAlu {sf : Bool} {rd : Reg} {m v : Word} {flags : State → State} (h : DpTable i s sf rd m)
    (hm : m &&& 0x0FFFFFFF = 0)
    (hf : (effectOf i s).cpsr = m → Within (effectOf i s) (s.writeReg rd v) (flags (s.writeReg rd v))) :
    EndsAs i s (writeAlu s sf rd v flags) := by
  obtain ⟨hc, hs, hd⟩ := h
  unfold writeAlu
  refine Exec.ends_ite (fun h15 => ?_) fun h15 => ?_
  · refine endsAs_writeAluPc (fun hsf => ?_) (fun hsf => ?_) hs v
    · rw [hc, if_pos hsf, if_pos h15]
    · exact keepsMode_of_none (by rw [hc, hsf]; rfl) hs
  · have hw : Within (effectOf i s) s (s.writeReg rd v) := .writeReg v hd
    cases sf with
    | false => exact endsAs_advance (keepsMode_of_none hc hs) hw
    | true =>
      have hcm : cpsrWritten i s = m := by rw [hc, if_pos rfl, if_neg h15]
      exact endsAs_advance (keepsMode_of_flags hcm hm hs) (hw.trans (hf hcm))

theorem Within.setArithFlags (r : AluOut) (h : (effectOf i s).cpsr = 0xF0000000) :
    Within (effectOf i s) u (u.setArithFlags r) := by
  refine .setNZCV _ _ _ _ ?_ ?_ ?_ ?_ <;> rw [h] <;> decide

theorem Within.setLogicFlags (v : Word) (c : Bool) (h : (effectOf i s).cpsr = 0xE0000000) :
    Within (effectOf i s) u (u.setLogicFlags v c) := by
  refine .trans (t := u.setNZ (v.getLsbD 31) (v == 0)) (.setNZ _ _ ?_ ?_) (.setCpsrBit _ ?_ ?_) <;> rw [h] <;> decide

theorem meets_arithOp {c : Cond} {sf : Bool} {rn rd : Reg} {op : Operand2} {f : Word → Word → Bool → AluOut}
    (h : DpTable i s sf rd 0xF0000000) : Meets i s (arithOp c sf rn rd op s f) :=
  meets_conditional <| Exec.ends_require_bind fun _ =>
    endsAs_writeAlu h (by decide) fun hc => .setArithFlags _ hc

theorem meets_logicOp {c : Cond} {sf : Bool} {sources : List Reg} {rd : Reg} {op : Operand2} {f : Word → Word}
    (h : DpTable i s sf rd 0xE0000000) : Meets i s (logicOp c sf sources rd op s f) :=
  meets_conditional <| Exec.ends_require_bind fun _ =>
    endsAs_writeAlu h (by decide) fun hc => .setLogicFlags _ _ hc

theorem meets_arithTest {c : Cond} {rn : Reg} {op : Operand2} {f : Word → Word → AluOut}
    (hc : cpsrWritten i s = 0xF0000000) (hs : writesSpsr i = false) : Meets i s (arithTest c rn op s f) :=
  meets_conditional <| Exec.ends_require_bind fun _ =>
    endsAs_advance (keepsMode_of_flags hc (by decide) hs) (.setArithFlags _ hc)

theorem meets_logicTest {c : Cond} {rn : Reg} {op : Operand2} {f : Word → Word → Word}
    (hc : cpsrWritten i s = 0xE0000000) (hs : writesSpsr i = false) : Meets i s (logicTest c rn op s f) :=
  meets_conditional <| Exec.ends_require_bind fun _ =>
    endsAs_advance (keepsMode_of_flags hc (by decide) hs) (.setLogicFlags _ _ hc)

/-- An instruction that writes one register and no status bit. -/
structure PlainTable (i : Instr) (s : State) (rd : Reg) : Prop where
  cpsr : cpsrWritten i s = 0
  spsr : writesSpsr i = false
  dest : MayWrite i s rd

theorem PlainTable.keeps {rd : Reg} (h : PlainTable i s rd) : KeepsMode i s := keepsMode_of_none h.cpsr h.spsr

theorem PlainTable.dpTable {rd : Reg} {m : Word} (h : PlainTable i s rd) : DpTable i s false rd m :=
  ⟨h.cpsr, h.spsr, h.dest⟩

theorem endsAs_advance_writeReg {rd : Reg} (v : Word) (h : PlainTable i s rd) :
    EndsAs i s (advance (s.writeReg rd v)) :=
  endsAs_advance h.keeps (.writeReg v h.dest)

theorem meets_execCpy {c : Cond} {rd rm : Reg} (h : PlainTable i s rd) : Meets i s (execCpy c rd rm s) :=
  meets_conditional <| endsAs_writeAlu (h.dpTable (m := 0)) (by decide) fun _ => .refl _ _

theorem meets_execClz {c : Cond} {rd rm : Reg} (h : PlainTable i s rd) : Meets i s (execClz c rd rm s) :=
  meets_conditional <| Exec.ends_require_bind fun _ => endsAs_advance_writeReg _ h

/-! ### Multiplies, and the instructions that write one register -/

theorem meets_mulPlain {c : Cond} {rd : Reg} {sources : List Reg} {v : Word} (h : PlainTable i s rd) :
    Meets i s (mulPlain c rd sources s v) :=
  meets_conditional <| Exec.ends_require_bind fun _ => endsAs_advance_writeReg _ h

/-- What the tables say of an instruction that may set Q. -/
structure StickyTable (i : Instr) (s : State) (rd : Reg) : Prop where
  cpsr : cpsrWritten i s = 0x08000000
  version : ∀ a, i.existsIn a = true → a.isE = true
  spsr : writesSpsr i = false
  dest : MayWrite i s rd

theorem StickyTable.keeps {rd : Reg} (h : StickyTable i s rd) : KeepsMode i s where
  mode := by rw [h.cpsr]; decide
  spsr := h.spsr
  psr hex := by
    have hE := h.version _ hex
    rw [h.cpsr]
    revert hE
    cases s.arch <;> decide

theorem endsAs_advance_stickQ {rd : Reg} (v : Word) (q : Bool) (h : StickyTable i s rd) :
    EndsAs i s (advance ((s.writeReg rd v).stickQ q)) := by
  refine endsAs_advance h.keeps (.trans (.writeReg v h.dest) (.stickQ q ?_))
  rw [show (effectOf i s).cpsr = 0x08000000 from h.cpsr]
  decide

theorem meets_mulQ {c : Cond} {rd : Reg} {sources : List Reg} {x : Int} (h : StickyTable i s rd) :
    Meets i s (mulQ c rd sources s x) :=
  meets_conditional <| Exec.ends_require_bind fun _ => endsAs_advance_stickQ _ _ h

theorem meets_satOp {c : Cond} {rd : Reg} {sources : List Reg} {v : Word} {q : Bool} (h : StickyTable i s rd) :
    Meets i s (satOp c rd sources s v q) :=
  meets_conditional <| Exec.ends_require_bind fun _ => endsAs_advance_stickQ _ _ h

/-- What the tables say of a multiply with S, whose flags before ARMv5 are the bits `m` (R243). -/
structure MulTable (i : Instr) (s : State) (sf : Bool) (m : Word) : Prop where
  cpsr : cpsrWritten i s = if sf then (if s.arch.atLeastV5 then 0xC0000000 else m) else 0
  spsr : writesSpsr i = false
  free : drawsFree i s = (sf && !s.arch.atLeastV5)

theorem MulTable.keeps {sf : Bool} {m : Word} (h : MulTable i s sf m) (hm : m &&& 0x0FFFFFFF = 0) : KeepsMode i s := by
  refine keepsMode_of_flags h.cpsr ?_ h.spsr
  split
  · split
    · decide
    · exact hm
  · decide

theorem Within.setMulFlags (n z : Bool) (h : MulTable i s true 0xE0000000) (hu : u.arch = s.arch) :
    Within (effectOf i s) u (u.setMulFlags n z) := by
  have hc : (effectOf i s).cpsr = if s.arch.atLeastV5 then 0xC0000000 else 0xE0000000 := h.cpsr
  unfold State.setMulFlags
  cases hv : s.arch.atLeastV5 with
  | true =>
    rw [hv] at hc
    simp only [hu, hv, if_true]
    refine .setNZ n z ?_ ?_ <;> rw [hc] <;> decide
  | false =>
    rw [hv] at hc
    simp only [hu, hv, Bool.false_eq_true, if_false]
    refine .trans (.trans (.setNZ n z ?_ ?_) (.setCpsrBit _ ?_ ?_)) (.drawn (by simp [effectOf, h.free, hv])) <;>
      rw [hc] <;> decide

theorem Within.setMulLongFlags (n z : Bool) (h : MulTable i s true 0xF0000000) (hu : u.arch = s.arch) :
    Within (effectOf i s) u (u.setMulLongFlags n z) := by
  have hc : (effectOf i s).cpsr = if s.arch.atLeastV5 then 0xC0000000 else 0xF0000000 := h.cpsr
  unfold State.setMulLongFlags
  cases hv : s.arch.atLeastV5 with
  | true =>
    rw [hv] at hc
    simp only [hu, hv, if_true]
    refine .setNZ n z ?_ ?_ <;> rw [hc] <;> decide
  | false =>
    rw [hv] at hc
    simp only [hu, hv, Bool.false_eq_true, if_false]
    refine .trans (.trans (.trans (.setNZ n z ?_ ?_) (.setCpsrBit _ ?_ ?_)) (.setCpsrBit _ ?_ ?_))
      (.drawn (by simp [effectOf, h.free, hv])) <;> rw [hc] <;> decide

theorem meets_mulOp {c : Cond} {sf : Bool} {rd : Reg} {sources : List Reg} {rm : Reg} {v : Word}
    (h : MulTable i s sf 0xE0000000) (hd : MayWrite i s rd) : Meets i s (mulOp c sf rd sources rm s v) := by
  refine meets_conditional <| Exec.ends_require_bind fun _ => Exec.ends_require_bind fun _ =>
    endsAs_advance (h.keeps (by decide)) ?_
  have hw : Within (effectOf i s) s (s.writeReg rd v) := .writeReg v hd
  cases sf with
  | false => exact hw
  | true => exact hw.trans (.setMulFlags _ _ h hw.arch_eq)

theorem Within.writePair {hi lo : Reg} (r : BitVec 64) (hh : MayWrite i s hi) (hl : MayWrite i s lo) :
    Within (effectOf i s) s (writePair s hi lo r) :=
  .trans (.writeReg _ hl) (.writeReg _ (by simpa [MayWrite] using hh))

theorem meets_mulLongOp {c : Cond} {sf : Bool} {hi lo rs rm : Reg} {r : BitVec 64} (h : MulTable i s sf 0xF0000000)
    (hh : MayWrite i s hi) (hl : MayWrite i s lo) : Meets i s (mulLongOp c sf hi lo rs rm s r) := by
  refine meets_conditional <| Exec.ends_require_bind fun _ => Exec.ends_require_bind fun _ =>
    Exec.ends_require_bind fun _ => endsAs_advance (h.keeps (by decide)) ?_
  have hw := Within.writePair r hh hl
  cases sf with
  | false => exact hw
  | true => exact hw.trans (.setMulLongFlags _ _ h hw.arch_eq)

theorem meets_mulLongNoFlags {c : Cond} {hi lo rs rm : Reg} {r : BitVec 64} (hq : KeepsMode i s)
    (hh : MayWrite i s hi) (hl : MayWrite i s lo) : Meets i s (mulLongNoFlags c hi lo rs rm s r) :=
  meets_conditional <| Exec.ends_require_bind fun _ => Exec.ends_require_bind fun _ =>
    endsAs_advance hq (.writePair r hh hl)

/-! ### Parallel arithmetic -/

/-- What the tables say of a parallel instruction: GE is written by the kinds that set it. -/
structure ParallelTable (i : Instr) (s : State) (k : LaneKind) (rd : Reg) : Prop where
  cpsr : cpsrWritten i s = if laneSetsGe k then 0x000F0000 else 0
  version : i.existsIn s.arch = (s.arch == .v6)
  spsr : writesSpsr i = false
  dest : MayWrite i s rd

theorem meets_parallelOp {k : LaneKind} {op : LaneKind → Word → Word → LaneOut} {c : Cond} {rn rd rm : Reg}
    (h : ParallelTable i s k rd) : Meets i s (parallelOp k op c rn rd rm s) := by
  refine meets_conditional <| Exec.ends_require_bind fun _ =>
    endsAs_advance (keepsMode_of_v6 h.cpsr (by split <;> decide) h.version h.spsr) ?_
  have hw : ∀ v, Within (effectOf i s) s (s.writeReg rd v) := fun v => .writeReg v h.dest
  split
  next hge =>
    have hc : (effectOf i s).cpsr = 0x000F0000 := by rw [← if_pos hge (t := (0x000F0000 : Word)) (e := 0)]; exact h.cpsr
    refine (hw _).trans (.setCpsr (withField_and_not _ _ 16 _ ?_) ?_) <;> rw [hc] <;> decide
  next => exact hw _

theorem meets_execSel {c : Cond} {rn rd rm : Reg} (h : PlainTable i s rd) : Meets i s (execSel c rn rd rm s) :=
  meets_conditional <| Exec.ends_require_bind fun _ => endsAs_advance_writeReg _ h

/-! ### Branches -/

theorem Within.link {hd : MayWrite i s 14} : Within (effectOf i s) s (s.writeReg 14 s.linkValue) := .writeReg _ hd

/-- A branch by four times an immediate keeps the alignment. -/
theorem low_two_branchTarget (imm : BitVec 24) (h : s.pc.extractLsb' 0 2 = 0) :
    (toWord (branchTarget s imm 0)).extractLsb' 0 2 = 0 := by
  rw [low_two_eq_zero_iff] at h ⊢
  simp only [toWord, branchTarget, BitVec.toNat_ofInt]
  omega

theorem endsAs_branchTo {v : Int} (hend : ∀ t, t = { u with pc := toWord v } → Ended i s t) :
    EndsAs i s (branchTo u v) := by
  refine Exec.ends_of_raises (Exec.raises_branchTo u v) fun t ht => ?_
  unfold branchTo at ht
  split at ht
  · exact hend t (by cases ht; rfl)
  · cases ht

theorem meets_execB {c : Cond} {imm : BitVec 24} (hq : KeepsMode i s) : Meets i s (execB c imm s) :=
  meets_conditional <| endsAs_branchTo fun _ ht =>
    ht ▸ .of_aligned hq (.refl _ s) fun harm => low_two_branchTarget imm harm.2.2

theorem meets_execBl {c : Cond} {imm : BitVec 24} (hq : KeepsMode i s) (hd : MayWrite i s 14) :
    Meets i s (execBl c imm s) :=
  meets_conditional <| endsAs_branchTo fun _ ht =>
    ht ▸ .of_aligned hq (.writeReg _ hd) fun harm => low_two_branchTarget imm harm.2.2

/-- What the tables say of an instruction that may write T, which it may at a version that has Thumb. -/
theorem keepsMode_of_thumb (hc : cpsrWritten i s = 0x20) (hex : i.existsIn .v4 = false) (hs : writesSpsr i = false) :
    KeepsMode i s where
  mode := by rw [hc]; decide
  spsr := hs
  psr h := by
    rw [hc]
    cases ha : s.arch with
    | v4 => rw [ha, hex] at h; cases h
    | v4T => decide
    | v5T => decide
    | v5TE => decide
    | v5TExP => decide
    | v5TEJ => decide
    | v6 => decide

theorem Within.setThumb (b : Bool) (hc : (effectOf i s).cpsr = 0x20) : Within (effectOf i s) u (u.setCpsrBit 5 b) := by
  refine .setCpsrBit b ?_ ?_ <;> rw [hc] <;> decide

theorem bitT_setCpsrBit (b : Bool) : (u.setCpsrBit 5 b).bitT = b := by
  cases b <;> simp [State.bitT, State.setCpsrBit, State.setCpsr, withBit]

theorem endsAs_branchExchange (hk : KeepsMode i s) (hc : cpsrWritten i s = 0x20) (hw : Within (effectOf i s) s u)
    (v : Word) : EndsAs i s (branchExchange u v) := by
  refine Exec.ends_of_raises (Exec.raises_branchExchange u v) fun t ht => ?_
  obtain ⟨h2, rfl⟩ := (branchExchange_ok u t v).mp ht
  refine .of_keepsMode hk (hw.trans (.setThumb _ hc)) fun _ hT _ => ?_
  rw [show ({ u.setCpsrBit 5 (v.getLsbD 0) with pc := v &&& 0xFFFFFFFE } : State).bitT = v.getLsbD 0 from
    bitT_setCpsrBit (u := u) (v.getLsbD 0)] at hT
  exact low_two_and_halfMask h2 hT

theorem meets_execBlx1 {h : Bool} {imm : BitVec 24} (hk : KeepsMode i s) (hc : cpsrWritten i s = 0x20)
    (hd : MayWrite i s 14) : Meets i s (execBlx1 h imm s) :=
  meets_finish <| endsAs_branchTo fun _ ht =>
    ht ▸ .of_keepsMode hk (.trans (.writeReg _ hd) (.setThumb true hc)) fun _ hT _ => by
      exact absurd ((bitT_setCpsrBit (u := s.writeReg 14 s.linkValue) true).symm.trans hT) (by decide)

theorem meets_execBx {c : Cond} {rm : Reg} (hk : KeepsMode i s) (hc : cpsrWritten i s = 0x20) :
    Meets i s (execBx c rm s) :=
  meets_conditional <| endsAs_branchExchange hk hc (.refl _ s) _

theorem meets_execBlx2 {c : Cond} {rm : Reg} (hk : KeepsMode i s) (hc : cpsrWritten i s = 0x20) (hd : MayWrite i s 14) :
    Meets i s (execBlx2 c rm s) :=
  meets_conditional <| Exec.ends_require_bind fun _ => endsAs_branchExchange hk hc (.writeReg _ hd) _

theorem meets_execBxj {c : Cond} {rm : Reg} (hk : KeepsMode i s) (hc : cpsrWritten i s = 0x20) :
    Meets i s (execBxj c rm s) :=
  meets_conditional <| Exec.ends_require_bind fun _ => Exec.ends_ite (fun _ => trivial) fun _ =>
    endsAs_branchExchange hk hc (.refl _ s) _

/-! ### Status registers -/

theorem meets_execMrs {c : Cond} {r : Bool} {rd : Reg} (h : PlainTable i s rd) : Meets i s (execMrs c r rd s) := by
  refine meets_conditional <| Exec.ends_require_bind fun _ => ?_
  cases r with
  | false => exact endsAs_advance_writeReg _ h
  | true => exact Exec.ends_bind (Exec.raises_currentSpsr s) fun _ _ => endsAs_advance_writeReg _ h

theorem meets_execSetend {b : Bool} (hc : cpsrWritten i s = 0x200) (hv : i.existsIn s.arch = (s.arch == .v6))
    (hs : writesSpsr i = false) : Meets i s (execSetend b s) := by
  refine meets_finish <| Exec.ends_ite (fun _ => trivial) fun _ =>
    endsAs_advance (keepsMode_of_v6 hc (by decide) hv hs) (.setCpsrBit b ?_ ?_) <;>
    rw [show (effectOf i s).cpsr = 0x200 from hc] <;> decide

/-- The bits a masked write leaves alone. -/
theorem underMask_and_not (old operand mask : Word) : underMask old operand mask &&& ~~~ mask = old &&& ~~~ mask := by
  apply BitVec.eq_of_getLsbD_eq
  intro j hj
  simp only [underMask, BitVec.getLsbD_and, BitVec.getLsbD_or, BitVec.getLsbD_not, hj, decide_true, Bool.true_and]
  cases mask.getLsbD j <;> simp

/-- A masked write keeps bits clear that are clear in both words. -/
theorem underMask_and_eq_zero {old operand mask k : Word} (h : old &&& k = 0) (h' : operand &&& k = 0) :
    underMask old operand mask &&& k = 0 := by
  apply BitVec.eq_of_getLsbD_eq
  intro j hj
  have ho := congrArg (fun x => x.getLsbD j) h
  have hp := congrArg (fun x => x.getLsbD j) h'
  simp only [underMask, BitVec.getLsbD_and, BitVec.getLsbD_or, BitVec.getLsbD_not, hj, decide_true, Bool.true_and,
    BitVec.ofNat_eq_ofNat, BitVec.getLsbD_zero] at ho hp ⊢
  cases hk : k.getLsbD j <;> simp_all

end Sys2Proof.Machine
end

section
/-! The shared meanings end within the tables: writes of the status registers, single loads and stores. -/

namespace Sys2Proof.Machine

variable {i : Instr} {s u : State}

/-! ### MSR, CPS, SWI and BKPT -/

/-- The usual end of an instruction that writes the CPSR but not T and J. -/
theorem endsAs_advance_psr (hw : Within (effectOf i s) s u)
    (huser : s.mode = .usr → u.cpsr &&& 0x1DF = s.cpsr &&& 0x1DF) (hmode : s.legalMode → u.legalMode)
      (hpsrs : i.existsIn s.arch = true → s.legalPsrs → u.legalPsrs) :
    EndsAs i s (advance u) := by
  refine Exec.ends_of_raises (Exec.raises_advance u) fun t ht => ?_
  obtain ⟨-, rfl⟩ := (advance_ok u t).mp ht
  refine { within := ?_, user := huser, legalMode := hmode, legalPsrs := hpsrs, pcAligned := fun harm _ _ => ?_ }
  · show Within _ s { u with pc := s.pc }
    rwa [← hw.pc]
  · exact low_two_add_four (by rw [hw.pc]; exact harm.2.2)

/-- No field mask gives Q without the other flags. -/
theorem msrCpsrMask_ne_sticky (s : State) (mask : BitVec 4) : msrCpsrMask s mask ≠ 0x08000000 := by
  have user : ∀ a : Arch, ∀ m : BitVec 4, byteMask m &&& (psrMasks a).user ≠ 0x08000000 ∧
      byteMask m &&& ((psrMasks a).user ||| (psrMasks a).priv) ≠ 0x08000000 := by
    intro a
    cases a <;> decide
  unfold msrCpsrMask
  split
  · exact (user s.arch mask).2
  · exact (user s.arch mask).1

/-- In User mode MSR writes neither the mode nor A, I and F. -/
theorem msrCpsrMask_user {mask : BitVec 4} (h : s.mode = .usr) : msrCpsrMask s mask &&& 0x1DF = 0 := by
  have user : ∀ a : Arch, ∀ m : BitVec 4, byteMask m &&& (psrMasks a).user &&& 0x1DF = 0 := by
    intro a
    cases a <;> decide
  rw [msrCpsrMask, h]
  exact user s.arch mask

/-- What the tables say of an MSR. -/
structure MsrTable (i : Instr) (s : State) (r : Bool) (mask : BitVec 4) : Prop where
  cpsr : cpsrWritten i s = if r then 0 else msrCpsrMask s mask
  spsr : writesSpsr i = r

theorem endsAs_msrCpsr {mask : BitVec 4} {operand : Word} (h : MsrTable i s false mask)
    (hop : operand &&& (psrMasks s.arch).unalloc = 0) : EndsAs i s (msrCpsr s mask operand) := by
  have hc : cpsrWritten i s = msrCpsrMask s mask := h.cpsr
  refine Exec.ends_require_bind fun _ => Exec.ends_require_bind fun hmode => endsAs_advance_psr ?_ ?_ ?_ ?_
  · refine .setCpsr ?_ ?_
    · rw [show (effectOf i s).cpsr = _ from hc]
      exact underMask_and_not _ _ _
    · rw [show (effectOf i s).cpsr = _ from hc]
      exact msrCpsrMask_ne_sticky s mask
  · exact fun hu => and_eq_of_and_not_eq (msrCpsrMask_user hu) (underMask_and_not _ _ _)
  · exact fun _ => hmode
  · rintro - ⟨hcp, hsp⟩
    exact ⟨underMask_and_eq_zero hcp hop, hsp⟩

theorem and_modeMask_eq_zero_iff (x : Word) : x &&& 0x1F = 0 ↔ psrMode x = 0 := by
  have h31 : (0x1F : Word).toNat = 2 ^ 5 - 1 := rfl
  rw [← BitVec.toNat_inj, ← BitVec.toNat_inj, BitVec.toNat_and, h31, Nat.and_two_pow_sub_one_eq_mod]
  simp [psrMode]

theorem psrMode_underMask {old operand mask : Word} (h : psrMode mask = 0) :
    psrMode (underMask old operand mask) = psrMode old :=
  psrMode_eq_of_and (k := 0x1F)
    rfl (and_eq_of_and_not_eq ((and_modeMask_eq_zero_iff mask).mpr h) (underMask_and_not _ _ _))

theorem SpsrFile.get_set (f : SpsrFile) (m k : Mode) (v : Word) :
    (f.set m v).get k = if m = k ∧ m.hasSpsr = true then some v else f.get k := by
  cases m <;> cases k <;> rfl

theorem endsAs_msrSpsr {mask : BitVec 4} {operand : Word} (h : MsrTable i s true mask)
    (hop : operand &&& (psrMasks s.arch).unalloc = 0) : EndsAs i s (msrSpsr s mask operand) := by
  have hc : cpsrWritten i s = 0 := h.cpsr
  refine Exec.ends_bind (Exec.raises_currentSpsr s) fun old hold => Exec.ends_require_bind fun hmode =>
    endsAs_advance_psr (.setSpsr _ (by simp [effectOf, h.spsr])) (fun _ => rfl) (fun h => h) ?_
  rintro - ⟨hcp, hsp⟩
  obtain ⟨hunalloc, hlegal⟩ := hsp _ _ ((currentSpsr_ok s old).mp hold)
  refine ⟨hcp, fun m x hx => ?_⟩
  rw [show ({ s with spsr := s.spsr.set s.mode (underMask old operand (msrSpsrMask s mask)) } : State).spsr.get m =
    _ from SpsrFile.get_set _ _ _ _] at hx
  split at hx
  · cases hx
    refine ⟨underMask_and_eq_zero hunalloc hop, ?_⟩
    rcases (Bool.or_eq_true _ _).mp hmode with h0 | h0
    · rw [psrMode_underMask (by simpa using h0)]
      exact hlegal
    · exact h0
  · exact hsp m x hx

theorem endsAs_msrOp {r : Bool} {mask : BitVec 4} {operand : Word} (h : MsrTable i s r mask) :
    EndsAs i s (msrOp s r mask operand) := by
  refine Exec.ends_require_bind fun hop => ?_
  cases r with
  | false => exact endsAs_msrCpsr h (by simpa using hop)
  | true => exact endsAs_msrSpsr h (by simpa using hop)

theorem meets_execMsrImm {c : Cond} {r : Bool} {mask rot : BitVec 4} {imm : BitVec 8} (h : MsrTable i s r mask) :
    Meets i s (execMsrImm c r mask rot imm s) :=
  meets_conditional <| endsAs_msrOp h

theorem meets_execMsrReg {c : Cond} {r : Bool} {mask : BitVec 4} {rm : Reg} (h : MsrTable i s r mask) :
    Meets i s (execMsrReg c r mask rm s) :=
  meets_conditional <| Exec.ends_require_bind fun _ => endsAs_msrOp h

/-- The bits CPS writes in a privileged mode. -/
def cpsMask (imod : BitVec 2) (mmod a ib f : Bool) : Word :=
  (if imod.getLsbD 1 then (if a then 0x100 else 0) ||| (if ib then 0x80 else 0) ||| (if f then 0x40 else 0) else 0) |||
    (if mmod then 0x1F else 0)

theorem cpsMask_cases (imod : BitVec 2) (mmod a ib f : Bool) :
    cpsMask imod mmod a ib f ≠ 0x08000000 ∧ cpsMask imod mmod a ib f &&& (psrMasks .v6).unalloc = 0 ∧
      (mmod = false → cpsMask imod mmod a ib f &&& 0x1F = 0) := by
  revert imod mmod a ib f
  decide

theorem withBitIf_and_not {x m : Word} {k : Nat} {p b : Bool} (h : p = true → m.getLsbD k = true) :
    (if p then withBit x k b else x) &&& ~~~ m = x &&& ~~~ m := by
  cases p with
  | false => rfl
  | true => exact withBit_and_not x m k b (h rfl)

theorem cpsResult_and_not (x : Word) (imod : BitVec 2) (mmod a ib f : Bool) (mode : BitVec 5) :
    cpsResult x imod mmod a ib f mode &&& ~~~ cpsMask imod mmod a ib f = x &&& ~~~ cpsMask imod mmod a ib f := by
  have bits : ∀ imod mmod a ib f,
      (((imod : BitVec 2).getLsbD 1 && a) = true → (cpsMask imod mmod a ib f).getLsbD 8 = true) ∧
      ((imod.getLsbD 1 && ib) = true → (cpsMask imod mmod a ib f).getLsbD 7 = true) ∧
      ((imod.getLsbD 1 && f) = true → (cpsMask imod mmod a ib f).getLsbD 6 = true) ∧
      (mmod = true → ∀ j < 5, (cpsMask imod mmod a ib f).getLsbD (0 + j) = true) := by
    decide
  obtain ⟨h8, h7, h6, h0⟩ := bits imod mmod a ib f
  have field : ∀ y : Word, (if mmod then withField y 0 mode else y) &&& ~~~ cpsMask imod mmod a ib f =
      y &&& ~~~ cpsMask imod mmod a ib f := by
    intro y
    split
    next hm => exact withField_and_not _ _ 0 mode (h0 hm)
    next => rfl
  unfold cpsResult
  rw [field, withBitIf_and_not h6, withBitIf_and_not h7, withBitIf_and_not h8]

theorem psrMode_withField (x : Word) (mode : BitVec 5) : psrMode (withField x 0 mode) = mode := by
  apply BitVec.eq_of_getLsbD_eq
  intro j hj
  interval_cases j <;> simp [psrMode, withField]

/-- The mode after CPS is the one it names, or the old one. -/
theorem psrMode_cpsResult (x : Word) (imod : BitVec 2) (mmod a ib f : Bool) (mode : BitVec 5) :
    psrMode (cpsResult x imod mmod a ib f mode) = if mmod then mode else psrMode x := by
  cases mmod with
  | true => exact psrMode_withField _ _
  | false =>
    exact psrMode_eq_of_and (k := 0x1F)
      rfl (and_eq_of_and_not_eq ((cpsMask_cases imod false a ib f).2.2 rfl) (cpsResult_and_not ..))

theorem meets_execCps {imod : BitVec 2} {mmod a ib f : Bool} {mode : BitVec 5}
    (hc : cpsrWritten i s = if s.mode.privileged then cpsMask imod mmod a ib f else 0)
    (hv : i.existsIn s.arch = (s.arch == .v6)) (hs : writesSpsr i = false) :
    Meets i s (execCps imod mmod a ib f mode s) := by
  obtain ⟨hq, hun, -⟩ := cpsMask_cases imod mmod a ib f
  refine meets_finish <| Exec.ends_require_bind fun _ => Exec.ends_ite (fun hp => ?_) fun hp => ?_
  · rw [if_pos hp] at hc
    have hcm : (effectOf i s).cpsr = cpsMask imod mmod a ib f := hc
    refine Exec.ends_require_bind fun hm => endsAs_advance_psr (.setCpsr ?_ ?_) (fun hu => ?_) (fun hmode => ?_) ?_
    · rw [hcm]
      exact cpsResult_and_not ..
    · rw [hcm]
      exact hq
    · rw [hu] at hp
      cases hp
    · show (Mode.ofCode (psrMode (cpsResult ..))).isSome = true
      rw [psrMode_cpsResult]
      cases mmod with
      | true => simpa using hm
      | false => exact hmode
    · rintro hex ⟨hcp, hsp⟩
      rw [hv, beq_iff_eq] at hex
      refine ⟨?_, hsp⟩
      refine (and_eq_of_and_not_eq (m := cpsMask imod mmod a ib f) ?_ (cpsResult_and_not ..)).trans hcp
      show _ &&& (psrMasks s.arch).unalloc = 0
      rw [hex]
      exact hun
  · rw [if_neg hp] at hc
    exact endsAs_advance (keepsMode_of_none hc hs) (.refl _ s)

theorem meets_execSwi {c : Cond} {imm : BitVec 24} (he : Exception.softwareInterrupt ∈ mayTake i) :
    Meets i s (execSwi c imm s) := by
  unfold execSwi
  split
  · exact meets_takeException he
  · exact meets_finish endsAs_passed_over

theorem meets_execBkpt {imm : BitVec 16} (he : Exception.prefetchAbort ∈ mayTake i) : Meets i s (execBkpt imm s) := by
  unfold execBkpt
  split
  · exact fun t ht => by cases ht
  · exact meets_takeException he

end Sys2Proof.Machine
end

section
/-! The shared meanings end within the tables: single loads and stores, coprocessors, swaps and exclusive accesses. -/

namespace Sys2Proof.Machine

variable {i : Instr} {s u : State}

/-! ### Write-back of a base -/

theorem accessOf_writeback (ix : Index2) (up : Bool) (base off : Word) :
    (accessOf ix up base off).writeback.isSome = Index2.writes ix := by
  cases ix <;> rfl

theorem address2_writes {ix : Index2} {up : Bool} {rn : Reg} {off : Offset2} {a : Access}
    (h : address2 s ix up rn off = .ok a) : a.writeback.isSome = Index2.writes ix := by
  obtain ⟨-, rfl⟩ := (address2_ok ..).mp h
  exact accessOf_writeback ..

theorem address3_writes {ix : Index3} {up : Bool} {rn : Reg} {off : Offset3} {a : Access}
    (h : address3 s ix up rn off = .ok a) : a.writeback.isSome = Index3.writes ix := by
  obtain ⟨j, hj, -, rfl⟩ := (address3_ok ..).mp h
  rw [accessOf_writeback]
  rcases (index3_ok ix j).mp hj with ⟨rfl, rfl⟩ | ⟨rfl, rfl⟩ | ⟨rfl, rfl⟩ <;> rfl

theorem address5_writes {am : Mode5} {rn : Reg} {off : BitVec 8} {a : Access} (h : address5 s am rn off = .ok a) :
    a.writeback.isSome = am.w := by
  obtain ⟨-, rfl⟩ := (address5_ok ..).mp h
  cases am <;> rfl

/-- A write of a register the tables allow, in a state of the same mode. -/
theorem Within.dest {r : Reg} (v : Word) (h : MayWrite i s r) (hm : u.cpsr = s.cpsr) :
    Within (effectOf i s) u (u.writeReg r v) :=
  .writeReg v (by rwa [State.mode, hm])

/-- The write-back of an access whose base may be written. -/
theorem Within.base {rn : Reg} {a : Access} {writes : Bool} (hb : writes = true → MayWrite i s rn)
    (ha : a.writeback.isSome = writes) (hm : u.cpsr = s.cpsr) : Within (effectOf i s) u (u.writeBack rn a.writeback) :=
  .writeBack fun h => by
    rw [State.mode, hm]
    exact hb (ha ▸ h)

/-! ### Loads -/

/-- What the tables say of a load into `rd`, with a base that is written when `writes`. -/
structure LoadTable (i : Instr) (s : State) (writes : Bool) (rn rd : Reg) : Prop where
  keeps : KeepsMode i s
  abort : Exception.dataAbort ∈ mayTake i
  dest : MayWrite i s rd
  base : writes = true → MayWrite i s rn

theorem endsAs_endLoad {writes : Bool} {rn rd : Reg} {a : Access} {v : Word} (h : LoadTable i s writes rn rd)
    (ha : a.writeback.isSome = writes) : EndsAs i s (endLoad s rn rd a v) := by
  exact endsAs_advance h.keeps (.trans (.base h.base ha rfl) (.dest v h.dest (by simp)))

theorem endsAs_loadByteTo {writes : Bool} {rn rd : Reg} {a : Access} {f : Byte → Word} (h : LoadTable i s writes rn rd)
    (ha : a.writeback.isSome = writes) : EndsAs i s (loadByteTo s rn rd a f) :=
  Exec.ends_bind (Exec.raises_memByte h.abort s _) fun _ _ => endsAs_endLoad h ha

theorem endsAs_loadHalfTo {writes : Bool} {rn rd : Reg} {a : Access} {f : Half → Word} (h : LoadTable i s writes rn rd)
    (ha : a.writeback.isSome = writes) : EndsAs i s (loadHalfTo s rn rd a f) :=
  Exec.ends_bind (Exec.raises_loadHalf h.abort s _) fun _ _ => endsAs_endLoad h ha

theorem meets_execLdrb {c : Cond} {ix : Index2} {up : Bool} {rn rd : Reg} {off : Offset2}
    (h : LoadTable i s (Index2.writes ix) rn rd) : Meets i s (execLdrb c ix up rn rd off s) :=
  meets_conditional <| Exec.ends_bind (Exec.raises_checkDest _ _ _) fun _ _ =>
    Exec.ends_bind (Exec.raises_address2 s _ _ _ _) fun _ ha => endsAs_loadByteTo h (address2_writes ha)

theorem meets_execLdrbt {c : Cond} {up : Bool} {rn rd : Reg} {off : Offset2} (h : LoadTable i s true rn rd) :
    Meets i s (execLdrbt c up rn rd off s) :=
  meets_conditional <| Exec.ends_bind (Exec.raises_checkDest _ _ _) fun _ _ =>
    Exec.ends_bind (Exec.raises_address2 s _ _ _ _) fun _ ha => endsAs_loadByteTo h (address2_writes ha)

theorem meets_execLdrsb {c : Cond} {ix : Index3} {up : Bool} {rn rd : Reg} {off : Offset3}
    (h : LoadTable i s (Index3.writes ix) rn rd) : Meets i s (execLdrsb c ix up rn rd off s) :=
  meets_conditional <| Exec.ends_bind (Exec.raises_checkDest _ _ _) fun _ _ =>
    Exec.ends_bind (Exec.raises_address3 s _ _ _ _) fun _ ha => endsAs_loadByteTo h (address3_writes ha)

theorem meets_execLdrh {c : Cond} {ix : Index3} {up : Bool} {rn rd : Reg} {off : Offset3}
    (h : LoadTable i s (Index3.writes ix) rn rd) : Meets i s (execLdrh c ix up rn rd off s) :=
  meets_conditional <| Exec.ends_bind (Exec.raises_checkDest _ _ _) fun _ _ =>
    Exec.ends_bind (Exec.raises_address3 s _ _ _ _) fun _ ha => endsAs_loadHalfTo h (address3_writes ha)

theorem meets_execLdrsh {c : Cond} {ix : Index3} {up : Bool} {rn rd : Reg} {off : Offset3}
    (h : LoadTable i s (Index3.writes ix) rn rd) : Meets i s (execLdrsh c ix up rn rd off s) :=
  meets_conditional <| Exec.ends_bind (Exec.raises_checkDest _ _ _) fun _ _ =>
    Exec.ends_bind (Exec.raises_address3 s _ _ _ _) fun _ ha => endsAs_loadHalfTo h (address3_writes ha)

theorem meets_execLdrt {c : Cond} {up : Bool} {rn rd : Reg} {off : Offset2} (h : LoadTable i s true rn rd) :
    Meets i s (execLdrt c up rn rd off s) :=
  meets_conditional <| Exec.ends_bind (Exec.raises_checkDest _ _ _) fun _ _ =>
    Exec.ends_bind (Exec.raises_address2 s _ _ _ _) fun _ ha =>
      Exec.ends_bind (Exec.raises_loadWord h.abort s _) fun _ _ => endsAs_endLoad h (address2_writes ha)

theorem meets_execLdrd {c : Cond} {ix : Index3} {up : Bool} {rn rd : Reg} {off : Offset3}
    (h : LoadTable i s (Index3.writes ix) rn (rd + 1)) (hd : MayWrite i s rd)
    (hu : Exception.undefinedInstruction ∈ mayTake i) : Meets i s (execLdrd c ix up rn rd off s) := by
  refine meets_conditional <| Exec.ends_bind (Exec.raises_checkDouble hu _ _ _) fun _ _ =>
    Exec.ends_require_bind fun _ => Exec.ends_bind (Exec.raises_address3 s _ _ _ _) fun _ ha =>
      Exec.ends_bind (Exec.raises_loadDouble h.abort s _) fun w _ => endsAs_advance h.keeps ?_
  exact .trans (.trans (.dest w.1 hd rfl) (.base h.base (address3_writes ha) (by simp))) (.dest w.2 h.dest (by simp))

/-- A pc that is loaded: before ARMv5 it selects no state (R410, R453). -/
theorem endsAs_loadPc {p : Bool} (hp : p = true) (hc : cpsrWritten i s = if p && s.arch.atLeastV5 then 0x20 else 0)
    (hs : writesSpsr i = false) (hw : Within (effectOf i s) s u) (v : Word) : EndsAs i s (loadPc u v) := by
  subst hp
  unfold loadPc
  rw [hw.arch_eq]
  cases hv : s.arch.atLeastV5 with
  | true =>
    rw [hv] at hc
    have hk : KeepsMode i s := {
      mode := by rw [hc]; decide
      spsr := hs
      psr := fun _ => by
        rw [hc]
        revert hv
        cases s.arch <;> decide }
    exact endsAs_branchExchange hk hc hw v
  | false =>
    rw [hv] at hc
    exact .of_aligned (keepsMode_of_none hc hs) hw fun _ => low_two_and_wordMask v

theorem meets_execLdr {c : Cond} {ix : Index2} {up : Bool} {rn rd : Reg} {off : Offset2}
    (hc : cpsrWritten i s = if rd = 15 && s.arch.atLeastV5 then 0x20 else 0) (hs : writesSpsr i = false)
    (hda : Exception.dataAbort ∈ mayTake i) (hd : MayWrite i s rd)
    (hb : Index2.writes ix = true → MayWrite i s rn) : Meets i s (execLdr c ix up rn rd off s) := by
  refine meets_conditional <| Exec.ends_require_bind fun _ => Exec.ends_bind (Exec.raises_address2 s _ _ _ _)
    fun a ha =>
    Exec.ends_ite (fun _ => Exec.ends_unpredictable _) fun _ =>
      Exec.ends_bind (Exec.raises_loadWord hda s _) fun v _ => Exec.ends_ite (fun h15 => ?_) fun h15 => ?_
  · exact endsAs_loadPc (by simpa using h15) hc hs (.base hb (address2_writes ha) rfl) v
  · exact endsAs_endLoad ⟨keepsMode_of_none (by rw [hc]; simp_all) hs, hda, hd, hb⟩ (address2_writes ha)

/-! ### Stores -/

/-- What the tables say of a store with a base that is written when `writes`. -/
structure StoreTable (i : Instr) (s : State) (writes : Bool) (rn : Reg) : Prop where
  keeps : KeepsMode i s
  abort : Exception.dataAbort ∈ mayTake i
  base : writes = true → MayWrite i s rn

theorem rangeOf_ok {access : Exec Access} {align : Word → Exec Word} {n : Nat} {acc : Access} {a : Word}
    (h : access = .ok acc) (ha : align acc.address = .ok a) : rangeOf s access align n = some (a, n) := by
  subst h
  simp [rangeOf, ha]

theorem endsAs_endStore {writes : Bool} {rn : Reg} {a : Access} (h : StoreTable i s writes rn)
    (hw : Within (effectOf i s) s u) (hm : u.cpsr = s.cpsr) (ha : a.writeback.isSome = writes) :
    EndsAs i s (endStore u rn a) :=
  endsAs_advance h.keeps (hw.trans (.base h.base ha hm))

theorem endsAs_storeBytes {writes : Bool} {rn : Reg} {a : Access} {addr : Word} {vs : List Byte}
    (h : StoreTable i s writes rn) (ha : a.writeback.isSome = writes) (hr : storeRange i s = some (addr, vs.length)) :
    EndsAs i s (memWrite s addr vs >>= fun t => endStore t rn a) := by
  refine Exec.ends_bind (Exec.raises_memWrite h.abort s _ _) fun t ht => ?_
  obtain ⟨-, rfl⟩ := (memWrite_ok ..).mp ht
  exact endsAs_endStore h (.store (.of_eq hr)) (by simp) ha

theorem wordBytes_length (big : Bool) (v : Word) : (wordBytes big v).length = 4 := by
  unfold wordBytes
  split <;> rfl

theorem halfBytes_length (big : Bool) (v : Half) : (halfBytes big v).length = 2 := by
  unfold halfBytes
  split <;> rfl

theorem endsAs_storeWordFrom {access : Exec Access} {writes : Bool} {rn rd : Reg} {a : Access}
    (h : StoreTable i s writes rn) (hr : storeRange i s = rangeOf s access (storeWordAddress s) 4)
    (hacc : access = .ok a) (ha : a.writeback.isSome = writes) : EndsAs i s (storeWordFrom s rn rd a) := by
  refine Exec.ends_bind (Exec.raises_storeWordAddress h.abort s _) fun addr haddr => endsAs_storeBytes h ha ?_
  rw [hr, wordBytes_length, rangeOf_ok hacc haddr]

theorem endsAs_storeByteFrom {access : Exec Access} {writes : Bool} {rn rd : Reg} {a : Access}
    (h : StoreTable i s writes rn) (hr : storeRange i s = rangeOf s access .ok 1) (hacc : access = .ok a)
    (ha : a.writeback.isSome = writes) : EndsAs i s (storeByteFrom s rn rd a) :=
  endsAs_storeBytes h ha (by rw [hr, rangeOf_ok hacc rfl]; rfl)

theorem meets_execStr {c : Cond} {ix : Index2} {up : Bool} {rn rd : Reg} {off : Offset2}
    (h : StoreTable i s (Index2.writes ix) rn)
    (hr : storeRange i s = rangeOf s (address2 s ix up rn off) (storeWordAddress s) 4) :
    Meets i s (execStr c ix up rn rd off s) :=
  meets_conditional <| Exec.ends_require_bind fun _ => Exec.ends_bind (Exec.raises_address2 s _ _ _ _) fun _ ha =>
    endsAs_storeWordFrom h hr ha (address2_writes ha)

theorem meets_execStrt {c : Cond} {up : Bool} {rn rd : Reg} {off : Offset2} (h : StoreTable i s true rn)
    (hr : storeRange i s = rangeOf s (address2 s .post up rn off) (storeWordAddress s) 4) :
    Meets i s (execStrt c up rn rd off s) :=
  meets_conditional <| Exec.ends_require_bind fun _ => Exec.ends_bind (Exec.raises_address2 s _ _ _ _) fun _ ha =>
    endsAs_storeWordFrom h hr ha (address2_writes ha)

theorem meets_execStrb {c : Cond} {ix : Index2} {up : Bool} {rn rd : Reg} {off : Offset2}
    (h : StoreTable i s (Index2.writes ix) rn) (hr : storeRange i s = rangeOf s (address2 s ix up rn off) .ok 1) :
    Meets i s (execStrb c ix up rn rd off s) :=
  meets_conditional <| Exec.ends_bind (Exec.raises_checkDest _ _ _) fun _ _ =>
    Exec.ends_bind (Exec.raises_address2 s _ _ _ _) fun _ ha => endsAs_storeByteFrom h hr ha (address2_writes ha)

theorem meets_execStrbt {c : Cond} {up : Bool} {rn rd : Reg} {off : Offset2} (h : StoreTable i s true rn)
    (hr : storeRange i s = rangeOf s (address2 s .post up rn off) .ok 1) : Meets i s (execStrbt c up rn rd off s) :=
  meets_conditional <| Exec.ends_bind (Exec.raises_checkDest _ _ _) fun _ _ =>
    Exec.ends_bind (Exec.raises_address2 s _ _ _ _) fun _ ha => endsAs_storeByteFrom h hr ha (address2_writes ha)

theorem meets_execStrh {c : Cond} {ix : Index3} {up : Bool} {rn rd : Reg} {off : Offset3}
    (h : StoreTable i s (Index3.writes ix) rn) (hr : storeRange i s = rangeOf s (address3 s ix up rn off) .ok 2) :
    Meets i s (execStrh c ix up rn rd off s) :=
  meets_conditional <| Exec.ends_bind (Exec.raises_checkDest _ _ _) fun _ _ =>
    Exec.ends_bind (Exec.raises_address3 s _ _ _ _) fun _ ha =>
      Exec.ends_bind (Exec.raises_checkHalfStore h.abort s _) fun _ _ =>
        endsAs_storeBytes h (address3_writes ha) (by rw [hr, rangeOf_ok ha rfl, halfBytes_length])

theorem meets_execStrd {c : Cond} {ix : Index3} {up : Bool} {rn rd : Reg} {off : Offset3}
    (h : StoreTable i s (Index3.writes ix) rn) (hr : storeRange i s = rangeOf s (address3 s ix up rn off) .ok 8)
    (hu : Exception.undefinedInstruction ∈ mayTake i) : Meets i s (execStrd c ix up rn rd off s) :=
  meets_conditional <| Exec.ends_bind (Exec.raises_checkDouble hu _ _ _) fun _ _ =>
    Exec.ends_bind (Exec.raises_address3 s _ _ _ _) fun _ ha =>
      Exec.ends_bind (Exec.raises_checkDoubleAligned h.abort s _) fun _ _ =>
        Exec.ends_bind (Exec.raises_checkWords h.abort s _ _) fun _ _ =>
          endsAs_endStore h (.storeWords (.of_eq (by rw [effectOf, hr, rangeOf_ok ha rfl]; rfl))) (by simp)
            (address3_writes ha)

theorem meets_execPld {up : Bool} {rn : Reg} {off : Offset2} (hq : KeepsMode i s) : Meets i s (execPld up rn off s) :=
  meets_finish <| Exec.ends_require_bind fun _ => endsAs_advance hq (.refl _ s)

/-! ### Swaps and exclusive accesses -/

theorem meets_execSwp {c : Cond} {rn rd rm : Reg} (h : LoadTable i s false rn rd)
    (hr : storeRange i s = match swapAddress s (s.readReg rn) with | .ok a => some (a, 4) | .error _ => none) :
    Meets i s (execSwp c rn rd rm s) := by
  refine meets_conditional <| Exec.ends_bind (Exec.raises_checkSwap _ _ _) fun _ _ =>
    Exec.ends_bind (Exec.raises_swapAddress h.abort s _) fun a ha =>
      Exec.ends_bind (Exec.raises_memWord h.abort s _) fun v _ =>
        Exec.ends_bind (Exec.raises_memWriteWord h.abort s _ _) fun t ht => ?_
  obtain ⟨-, rfl⟩ := (memWriteWord_ok ..).mp ht
  rw [ha] at hr
  exact endsAs_advance h.keeps (.trans (.storeWord _ (.of_eq hr)) (.dest _ h.dest (by simp)))

theorem meets_execSwpb {c : Cond} {rn rd rm : Reg} (h : LoadTable i s false rn rd)
    (hr : storeRange i s = some (s.readReg rn, 1)) : Meets i s (execSwpb c rn rd rm s) := by
  refine meets_conditional <| Exec.ends_bind (Exec.raises_checkSwap _ _ _) fun _ _ =>
    Exec.ends_bind (Exec.raises_memByte h.abort s _) fun v _ =>
      Exec.ends_bind (Exec.raises_memWrite h.abort s _ _) fun t ht => ?_
  obtain ⟨-, rfl⟩ := (memWrite_ok ..).mp ht
  exact endsAs_advance h.keeps (.trans (.store (vs := [_]) (.of_eq hr)) (.dest _ h.dest (by simp)))

theorem meets_execLdrex {c : Cond} {rn rd : Reg} (hi : i = .ldrex c rn rd) (h : LoadTable i s false rn rd)
    (hm : writesLocalMonitor i = true) : Meets i s (execLdrex c rn rd s) := by
  refine meets_finishFrom (.inr ⟨c, rn, rd, hi, rfl⟩) <| endsAs_conditional <|
    Exec.ends_bind (Exec.raises_requireNoPc _) fun _ _ => Exec.ends_bind (Exec.raises_checkExclusive h.abort s _)
      fun _ _ =>
      Exec.ends_bind (Exec.raises_memWord h.abort s _) fun v _ => endsAs_advance h.keeps ?_
  exact .trans (.trans (.markGlobal _ hm) (.markLocal _ hm)) (.dest v h.dest (by simp))

theorem Within.strexStore {a v : Word} (hr : storeRange i s = some (a, 4)) (hm : writesLocalMonitor i = true) :
    Within (effectOf i s) s (strexStore s a v) := by
  have hw := Within.storeWord (s := s) v (.of_eq (a := a) (range := (effectOf i s).bytes) hr)
  unfold Machine.strexStore
  split
  · exact hw.trans (.clearAfterStrex a hm)
  · exact hw

theorem strexStore_cpsr (s : State) (a v : Word) : (strexStore s a v).cpsr = s.cpsr := by
  unfold strexStore
  split <;> simp

theorem meets_execStrex {c : Cond} {rn rd rm : Reg} (h : LoadTable i s false rn rd) (hm : writesLocalMonitor i = true)
    (hr : storeRange i s = some (s.readReg rn, 4)) : Meets i s (execStrex c rn rd rm s) := by
  refine meets_conditional <| Exec.ends_bind (Exec.raises_requireNoPc _) fun _ _ => Exec.ends_require_bind fun _ =>
    Exec.ends_bind (Exec.raises_checkExclusive h.abort s _) fun _ _ =>
      Exec.ends_bind (Exec.raises_checkWords h.abort s _ _) fun _ _ => Exec.ends_ite (fun _ => ?_) fun _ => ?_
  · exact endsAs_advance h.keeps
      (.trans (.trans (.strexStore hr hm) (.dest _ h.dest (strexStore_cpsr ..))) (.openLocal hm))
  · exact endsAs_advance h.keeps (.trans (.writeReg _ h.dest) (.openLocal hm))

/-! ### Coprocessors -/

/-- What the tables say of an instruction of coprocessor `cp`. -/
structure CoprocTable (i : Instr) (s : State) (cp : BitVec 4) : Prop where
  coproc : coprocOf i = some cp
  refused : Exception.undefinedInstruction ∈ mayTake i
  cpsr : cpsrWritten i s = 0
  spsr : writesSpsr i = false

theorem CoprocTable.keeps {cp : BitVec 4} (h : CoprocTable i s cp) : KeepsMode i s := keepsMode_of_none h.cpsr h.spsr

theorem Within.unit {cp : BitVec 4} (v : CoprocUnit) (h : CoprocTable i s cp) :
    Within (effectOf i s) u (u.setCoproc cp v) :=
  .setCoproc v h.coproc

theorem endsAs_cdpBody {cp : BitVec 4} {w : Word} (h : CoprocTable i s cp) : EndsAs i s (cdpBody s cp w) :=
  Exec.ends_bind (Exec.raises_askCoproc s h.refused cp w) fun _ _ => endsAs_advance h.keeps (.unit _ h)

theorem endsAs_mcrBody {rd : Reg} {cp : BitVec 4} {w : Word} (h : CoprocTable i s cp) :
    EndsAs i s (mcrBody s rd cp w) :=
  Exec.ends_require_bind fun _ => Exec.ends_bind (Exec.raises_askCoproc s h.refused cp w) fun _ _ =>
    endsAs_advance h.keeps (.unit _ h)

theorem endsAs_mcrrBody {rn rd : Reg} {cp : BitVec 4} {w : Word} (h : CoprocTable i s cp) :
    EndsAs i s (mcrrBody s rn rd cp w) :=
  Exec.ends_bind (Exec.raises_checkPair rn rd) fun _ _ =>
    Exec.ends_bind (Exec.raises_askCoproc s h.refused cp w) fun _ _ => endsAs_advance h.keeps (.unit _ h)

theorem endsAs_mrrcBody {rn rd : Reg} {cp : BitVec 4} {w : Word} (h : CoprocTable i s cp) (hn : MayWrite i s rn)
    (hd : MayWrite i s rd) : EndsAs i s (mrrcBody s rn rd cp w) :=
  Exec.ends_bind (Exec.raises_checkPair rn rd) fun _ _ =>
    Exec.ends_bind (Exec.raises_askCoproc s h.refused cp w) fun _ _ => endsAs_advance h.keeps <|
      .trans (.trans (.unit _ h) (.dest _ hd (by simp)))
        (.dest _ hn (by simp))

theorem endsAs_mrcBody {rd : Reg} {cp : BitVec 4} {w : Word} (hcp : coprocOf i = some cp)
    (hu : Exception.undefinedInstruction ∈ mayTake i) (hc : cpsrWritten i s = if rd = 15 then 0xF0000000 else 0)
    (hs : writesSpsr i = false) (hd : MayWrite i s rd) : EndsAs i s (mrcBody s rd cp w) := by
  refine Exec.ends_bind (Exec.raises_askCoproc s hu cp w) fun _ _ => Exec.ends_ite (fun h15 => ?_) fun h15 => ?_
  · rw [if_pos h15] at hc
    refine endsAs_advance (keepsMode_of_flags hc (by decide) hs)
      (.trans (.setCoproc _ hcp) (.setNZCV _ _ _ _ ?_ ?_ ?_ ?_)) <;>
      rw [show (effectOf i s).cpsr = _ from hc] <;> decide
  · rw [if_neg h15] at hc
    exact endsAs_advance (keepsMode_of_none hc hs) (.trans (.setCoproc _ hcp) (.dest _ hd (by simp)))

theorem endsAs_ldcBody {am : Mode5} {rn : Reg} {cp : BitVec 4} {off : BitVec 8} {w : Word} (h : CoprocTable i s cp)
    (hda : Exception.dataAbort ∈ mayTake i) (hb : am.w = true → MayWrite i s rn) :
    EndsAs i s (ldcBody s am rn cp off w) :=
  Exec.ends_bind (Exec.raises_address5 s _ _ _) fun _ ha =>
    Exec.ends_bind (Exec.raises_askCoproc s h.refused cp w) fun _ _ =>
      Exec.ends_bind (Exec.raises_multipleStart hda s _) fun _ _ => Exec.ends_bind (Exec.raises_checkWords hda s _ _)
        fun _ _ =>
        Exec.ends_bind (Exec.raises_memWords hda s _ _) fun _ _ => endsAs_advance h.keeps <|
          .trans (.unit _ h) (.base hb (address5_writes ha) rfl)

theorem stcWords_length (cp : BitVec 4) (v : CoprocUnit) (w : Word) (n : Nat) : (stcWords cp v w n).length = n := by
  simp [stcWords]

theorem endsAs_stcBody {am : Mode5} {rn : Reg} {cp : BitVec 4} {off : BitVec 8} {w : Word} (h : CoprocTable i s cp)
    (hda : Exception.dataAbort ∈ mayTake i) (hb : am.w = true → MayWrite i s rn)
    (hr : storeRange i s = coprocRange s am rn cp off w) : EndsAs i s (stcBody s am rn cp off w) := by
  refine Exec.ends_bind (Exec.raises_address5 s _ _ _) fun acc ha =>
    Exec.ends_bind (Exec.raises_askCoproc s h.refused cp w) fun p hp =>
      Exec.ends_bind (Exec.raises_multipleStart hda s _) fun a hs => Exec.ends_bind (Exec.raises_checkWords hda s _ _)
        fun _ _ =>
        endsAs_advance h.keeps ?_
  have hrange : storeRange i s = some (a, 4 * (stcWords cp p.1 w p.2).length) := by
    rw [hr, stcWords_length]
    simp [coprocRange, ha, hp, hs]
  exact .trans (.trans (.storeWords (.of_eq hrange)) (.unit _ h))
    (.base hb (address5_writes ha) (by simp))

end Sys2Proof.Machine
end

section
/-! Register lists, and the multiple transfers: they end within the tables. -/

namespace Sys2Proof.Machine

/-! ### Register lists (R450, R451) -/

theorem mem_listRegs {list : BitVec 16} {r : Reg} : r ∈ listRegs list ↔ list.getLsbD r.toNat = true := by
  simp only [listRegs, List.mem_map, List.mem_filter, List.mem_range]
  constructor
  · rintro ⟨k, ⟨hk, hb⟩, rfl⟩
    rwa [BitVec.toNat_ofNat, Nat.mod_eq_of_lt hk]
  · exact fun h => ⟨r.toNat, ⟨r.isLt, h⟩, by simp⟩

theorem listRegs_nodup (list : BitVec 16) : (listRegs list).Nodup := by
  refine List.Nodup.map_on (fun x hx y hy h => ?_) (List.nodup_range.filter _)
  simp only [List.mem_filter, List.mem_range] at hx hy
  have := congrArg BitVec.toNat h
  rwa [BitVec.toNat_ofNat, BitVec.toNat_ofNat, Nat.mod_eq_of_lt hx.1, Nat.mod_eq_of_lt hy.1] at this

/-- A register stands in its list at its rank. -/
theorem listRegs_getElem?_rank {list : BitVec 16} {r : Reg} (h : list.getLsbD r.toNat = true) :
    (listRegs list)[listRank list r]? = some r := by
  have hr : r.toNat < 16 := r.isLt
  have split : List.range 16 = List.range r.toNat ++ r.toNat ::
      (List.range (15 - r.toNat)).map (fun k => r.toNat + 1 + k) := by
    have h16 : 16 = (r.toNat + 1) + (15 - r.toNat) := by omega
    conv_lhs => rw [h16]
    rw [List.range_add, List.range_succ, List.append_assoc]
    rfl
  have hlist : listRegs list = ((List.range r.toNat).filter (fun i => list.getLsbD i)).map (BitVec.ofNat 4) ++
      r :: (((List.range (15 - r.toNat)).map (fun k => r.toNat + 1 + k)).filter (fun i => list.getLsbD i)).map
        (BitVec.ofNat 4) := by
    simp only [listRegs, split, List.filter_append, List.filter_cons, h, if_true, List.map_append, List.map_cons,
      BitVec.ofNat_toNat, BitVec.setWidth_eq]
  rw [hlist, List.getElem?_append_right (by simp [listRank])]
  simp [listRank]

theorem listRank_lt {list : BitVec 16} {r : Reg} (h : list.getLsbD r.toNat = true) :
    listRank list r < (listRegs list).length :=
  (List.getElem?_eq_some_iff.mp (listRegs_getElem?_rank h)).1

/-- The lowest register of a list is the one of rank 0. -/
theorem head?_listRegs {list : BitVec 16} {r : Reg} (h : list.getLsbD r.toNat = true) :
    (listRegs list).head? = some r ↔ listRank list r = 0 := by
  have hr := listRegs_getElem?_rank h
  rw [List.head?_eq_getElem?]
  constructor
  · intro h0
    by_contra hne
    exact List.nodup_iff_getElem?_ne_getElem?.mp (listRegs_nodup list) 0 _ (Nat.pos_of_ne_zero hne) (listRank_lt h)
      (h0.trans hr.symm)
  · intro h0
    rwa [h0] at hr

/-! ### Multiple transfers -/

variable {i : Instr} {s u : State}

theorem Within.writeRegs {e : Effect} {m : Mode} {l : List (Reg × Word)}
    (h : ∀ p ∈ l, ∀ q, physReg m p.1 = some q → q ∈ e.regs) : Within e s (s.writeRegs m l) := by
  induction l generalizing s with
  | nil => exact .refl e s
  | cons p l ih =>
    exact .trans (.writeRegIn p.2 (h p List.mem_cons_self)) (ih fun q hq => h q (List.mem_cons_of_mem _ hq))

theorem Within.baseIf {wb : Bool} {rn : Reg} {v : Word} (hb : wb = true → MayWrite i s rn) (hm : u.cpsr = s.cpsr) :
    Within (effectOf i s) u (u.writeBaseIf wb rn v) := by
  cases wb with
  | false => exact .refl _ u
  | true => exact .dest v (hb rfl) hm

/-- What the tables say of an LDM of the current mode's registers. -/
structure LdmTable (i : Instr) (s : State) (wb : Bool) (rn : Reg) (list : BitVec 16) : Prop where
  abort : Exception.dataAbort ∈ mayTake i
  spsr : writesSpsr i = false
  dest : ∀ r ∈ listRegs list, MayWrite i s r
  base : wb = true → MayWrite i s rn
  free : rn ≠ 15 → wb = true → list.getLsbD rn.toNat = true → drawsFree i s = true

theorem Within.freeBase {wb : Bool} {rn : Reg} {list : BitVec 16} (h : LdmTable i s wb rn list) (hn : rn ≠ 15)
    (hm : u.cpsr = s.cpsr) : Within (effectOf i s) u (u.freeBase wb rn list) := by
  unfold State.freeBase
  split
  next hf =>
    obtain ⟨hwb, hl⟩ := (Bool.and_eq_true _ _).mp hf
    exact .trans (.dest _ (h.base hwb) hm) (.drawn (h.free hn hwb hl))
  next => exact .refl _ u

theorem Within.endLoadBlock {wb : Bool} {rn : Reg} {list : BitVec 16} {vs : List Word} {base : Word}
    (h : LdmTable i s wb rn list) (hn : rn ≠ 15) : Within (effectOf i s) s (endLoadBlock s wb rn list vs base) := by
  refine .trans (.trans (.baseIf h.base rfl) (.writeRegs fun p hp => ?_)) (.freeBase h hn (by simp))
  exact h.dest _ (List.of_mem_zip hp).1

theorem meets_execLdm1 {c : Cond} {am : Mode4} {wb : Bool} {rn : Reg} {list : BitVec 16} (h : LdmTable i s wb rn list)
    (hc : cpsrWritten i s = if list.getLsbD 15 && s.arch.atLeastV5 then 0x20 else 0) :
    Meets i s (execLdm1 c am wb rn list s) := by
  refine meets_conditional <| Exec.ends_bind (Exec.raises_checkList _ _) fun _ hl =>
    Exec.ends_bind (Exec.raises_loadBlock h.abort s _ _ _) fun p _ => ?_
  have hw := Within.endLoadBlock (vs := p.1) (base := p.2) h ((checkList_ok rn list).mp hl).1
  refine Exec.ends_ite (fun h15 => endsAs_loadPc h15 hc h.spsr hw _) fun h15 => endsAs_advance ?_ hw
  exact keepsMode_of_none (by rw [hc, Bool.eq_false_iff.mpr h15]; rfl) h.spsr

theorem meets_execLdm2 {c : Cond} {am : Mode4} {rn : Reg} {list : BitVec 15} (hq : KeepsMode i s)
    (hda : Exception.dataAbort ∈ mayTake i) (hh : armsHazard i = true)
    (hd : destPhys i s = (listRegs (list.setWidth 16)).filterMap (physReg .usr)) :
    Meets i s (execLdm2 c am rn list s) := by
  refine meets_conditional <| Exec.ends_bind (Exec.raises_checkList _ _) fun _ _ => Exec.ends_require_bind fun _ =>
    Exec.ends_bind (Exec.raises_loadBlock hda s _ _ _) fun p _ =>
      endsAs_advance hq (.trans (.writeRegs fun q hq r hr => ?_) (.armHazard hh))
  rw [effectOf, hd]
  exact List.mem_filterMap.mpr ⟨_, (List.of_mem_zip hq).1, hr⟩

theorem meets_execLdm3 {c : Cond} {am : Mode4} {wb : Bool} {rn : Reg} {list : BitVec 15}
    (h : LdmTable i s wb rn (withBit (list.setWidth 16) 15 true)) (hc : cpsrWritten i s = 0xFFFFFFFF) :
    Meets i s (execLdm3 c am wb rn list s) :=
  meets_conditional <| Exec.ends_bind (Exec.raises_checkList _ _) fun _ hl =>
    Exec.ends_bind (Exec.raises_currentSpsr s) fun _ hp =>
      Exec.ends_bind (Exec.raises_loadBlock h.abort s _ _ _) fun _ _ =>
        endsAs_returnTo hc h.spsr (mode_ne_usr_of_currentSpsr hp) (.endLoadBlock h ((checkList_ok rn _).mp hl).1) _ _

theorem blockRange_ok {start a : Word} {n : Nat} (h : blockStart s start n = .ok a) :
    blockRange s start n = some (a, 4 * n) := by
  simp [blockRange, h]

/-- A multiple store ends within the run of bytes its table names. -/
theorem Within.storeBlock {t : State} {am : Mode4} {rn : Reg} {list : BitVec 16} {vs : List Word}
    (hr : storeRange i s = blockRange s (listAddress s am rn list).1 (listRegs list).length)
    (hl : vs.length = (listRegs list).length) (h : storeBlock s am rn list vs = .ok t) :
    Within (effectOf i s) s t ∧ t.cpsr = s.cpsr := by
  obtain ⟨a, ha, rfl⟩ := (storeBlock_ok ..).mp h
  refine ⟨.storeWords (.of_eq ?_), by simp⟩
  rw [hl]
  exact hr.trans (blockRange_ok ha)

theorem meets_execStm1 {c : Cond} {am : Mode4} {wb : Bool} {rn : Reg} {list : BitVec 16} (h : StoreTable i s wb rn)
    (hr : storeRange i s = blockRange s (listAddress s am rn list).1 (listRegs list).length)
    (hf : drawsFree i s = (wb && list.getLsbD rn.toNat && listRank list rn != 0)) :
    Meets i s (execStm1 c am wb rn list s) := by
  refine meets_conditional <| Exec.ends_bind (Exec.raises_checkList _ _) fun _ _ =>
    Exec.ends_bind (Exec.raises_storeBlock h.abort s _ _ _ _) fun t ht => endsAs_advance h.keeps ?_
  obtain ⟨hw, hcp⟩ := Within.storeBlock hr (by simp) ht
  refine hw.trans (.trans (.baseIf (v := (listAddress s am rn list).2) h.base hcp) ?_)
  unfold stmDrawn
  split
  next hd =>
    refine .drawn ?_
    simp only [Bool.and_eq_true, bne_iff_ne, ne_eq] at hd
    obtain ⟨⟨hwb, hl⟩, hrank⟩ := hd
    rw [head?_listRegs hl] at hrank
    simp [effectOf, hf, hwb, hl, hrank]
  next => exact .refl _ _

theorem meets_execStm2 {c : Cond} {am : Mode4} {rn : Reg} {list : BitVec 16} (hq : KeepsMode i s)
    (hda : Exception.dataAbort ∈ mayTake i) (hh : armsHazard i = true)
    (hr : storeRange i s = blockRange s (listAddress s am rn list).1 (listRegs list).length) :
    Meets i s (execStm2 c am rn list s) :=
  meets_conditional <| Exec.ends_bind (Exec.raises_checkList _ _) fun _ _ => Exec.ends_require_bind fun _ =>
    Exec.ends_bind (Exec.raises_storeBlock hda s _ _ _ _) fun _ ht =>
      endsAs_advance hq (.trans (Within.storeBlock hr (by simp) ht).1 (.armHazard hh))

theorem meets_execRfe {am : Mode4} {wb : Bool} {rn : Reg} (hda : Exception.dataAbort ∈ mayTake i)
    (hs : writesSpsr i = false) (hc : cpsrWritten i s = 0xFFFFFFFF) (hb : wb = true → MayWrite i s rn) :
    Meets i s (execRfe am wb rn s) :=
  meets_finish <| Exec.ends_require_bind fun _ => Exec.ends_require_bind fun hp =>
    Exec.ends_bind (Exec.raises_blockStart hda s _ _) fun _ _ => Exec.ends_bind (Exec.raises_memWord hda s _) fun v _ =>
      Exec.ends_bind (Exec.raises_memWord hda s _) fun x _ =>
        endsAs_returnTo hc hs (by simpa [Mode.privileged] using hp) (.baseIf hb rfl)
        x v

theorem meets_execSrs {am : Mode4} {wb : Bool} {mode : BitVec 5} (hq : KeepsMode i s)
    (hda : Exception.dataAbort ∈ mayTake i)
    (hr : ∀ m, Mode.ofCode mode = some m → storeRange i s = blockRange s (mode4 am (s.readRegIn m 13) 8).1 2)
    (hd : ∀ m, Mode.ofCode mode = some m → wb = true → bankedReg m 13 ∈ destPhys i s) :
    Meets i s (execSrs am wb mode s) := by
  refine meets_finish <| Exec.ends_bind (Exec.raises_currentSpsr s) fun x _ => ?_
  cases hm : Mode.ofCode mode with
  | none => exact Exec.ends_unpredictable _
  | some m =>
    refine Exec.ends_bind (Exec.raises_blockStart hda s _ _) fun a ha => endsAs_advance hq ?_
    have hw : Within (effectOf i s) s (s.storeWords a [s.readReg 14, x]) :=
      .storeWords (.of_eq ((hr m hm).trans (blockRange_ok ha)))
    cases wb with
    | false => exact hw
    | true =>
      rw [if_pos rfl]
      refine hw.trans (.writeRegIn _ fun p hp => ?_)
      cases hp
      exact hd m hm rfl

end Sys2Proof.Machine
end

section
/-! Every instruction ends within its tables, or takes one of its exceptions. -/

namespace Sys2Proof.Machine

variable {i : Instr} {s : State}

/-! ### The tables' rows, from what they compute to -/

theorem mayWrite_head {r : Reg} {l : List Reg} (h : destPhys i s = (destRegs i).filterMap (physReg s.mode))
    (hl : destRegs i = r :: l) : MayWrite i s r :=
  mayWrite_of_mem h (hl ▸ List.mem_cons_self)

theorem mayWrite_second {r q : Reg} {l : List Reg} (h : destPhys i s = (destRegs i).filterMap (physReg s.mode))
    (hl : destRegs i = q :: r :: l) : MayWrite i s r :=
  mayWrite_of_mem h (hl ▸ List.mem_cons_of_mem _ List.mem_cons_self)

theorem mayWrite_if {r : Reg} {b : Bool} (h : destPhys i s = (destRegs i).filterMap (physReg s.mode))
    (hl : destRegs i = if b then [r] else []) (hb : b = true) : MayWrite i s r :=
  mayWrite_of_mem h (by simp [hl, hb])

theorem dpTable {sf : Bool} {rd : Reg} {m : Word}
    (hc : cpsrWritten i s = if sf then (if rd = 15 then 0xFFFFFFFF else m) else 0)
    (hs : writesSpsr i = false) (h : destPhys i s = (destRegs i).filterMap (physReg s.mode)) (hl : destRegs i = [rd]) :
    DpTable i s sf rd m :=
  ⟨hc, hs, mayWrite_head h hl⟩

theorem plainTable {rd : Reg} (hc : cpsrWritten i s = 0) (hs : writesSpsr i = false)
    (h : destPhys i s = (destRegs i).filterMap (physReg s.mode)) (hl : destRegs i = [rd]) : PlainTable i s rd :=
  ⟨hc, hs, mayWrite_head h hl⟩

theorem stickyTable_e {rd : Reg} (hv : ∀ a, i.existsIn a = a.isE) (hc : cpsrWritten i s = 0x08000000)
    (hs : writesSpsr i = false) (h : destPhys i s = (destRegs i).filterMap (physReg s.mode)) (hl : destRegs i = [rd]) :
    StickyTable i s rd :=
  ⟨hc, fun a ha => hv a ▸ ha, hs, mayWrite_head h hl⟩

theorem stickyTable_v6 {rd : Reg} (hv : ∀ a, i.existsIn a = (a == .v6)) (hc : cpsrWritten i s = 0x08000000)
    (hs : writesSpsr i = false) (h : destPhys i s = (destRegs i).filterMap (physReg s.mode)) (hl : destRegs i = [rd]) :
    StickyTable i s rd := by
  refine ⟨hc, fun a ha => ?_, hs, mayWrite_head h hl⟩
  rw [hv, beq_iff_eq] at ha
  rw [ha]
  decide

section
variable {rn rd : Reg} (hc : cpsrWritten i s = 0) (hs : writesSpsr i = false) (he : mayTake i = [.dataAbort])
  (h : destPhys i s = (destRegs i).filterMap (physReg s.mode))
include hc hs he h

theorem loadTable_plain (hl : destRegs i = [rd]) : LoadTable i s false rn rd :=
  ⟨keepsMode_of_none hc hs, by simp [he], mayWrite_head h hl, fun hf => by cases hf⟩

theorem loadTable_post (hl : destRegs i = [rd, rn]) : LoadTable i s true rn rd :=
  ⟨keepsMode_of_none hc hs, by simp [he], mayWrite_head h hl, fun _ => mayWrite_second h hl⟩

theorem loadTable_indexed {writes : Bool} (hl : destRegs i = if writes then [rd, rn] else [rd]) :
    LoadTable i s writes rn rd := by
  cases writes with
  | false => exact loadTable_plain hc hs he h hl
  | true =>
    obtain ⟨hq, ha, hd, hb⟩ := loadTable_post hc hs he h hl
    exact ⟨hq, ha, hd, hb⟩

theorem storeTable_post (hl : destRegs i = [rn]) : StoreTable i s true rn :=
  ⟨keepsMode_of_none hc hs, by simp [he], fun _ => mayWrite_head h hl⟩

theorem storeTable_indexed {writes : Bool} (hl : destRegs i = if writes then [rn] else []) :
    StoreTable i s writes rn :=
  ⟨keepsMode_of_none hc hs, by simp [he], mayWrite_if h hl⟩

end

theorem mayWrite_indexed {rn rd : Reg} {writes : Bool} (h : destPhys i s = (destRegs i).filterMap (physReg s.mode))
    (hl : destRegs i = if writes then [rd, rn] else [rd]) : MayWrite i s rd ∧ (writes = true → MayWrite i s rn) := by
  cases writes with
  | false => exact ⟨mayWrite_head h hl, fun hf => by cases hf⟩
  | true => exact ⟨mayWrite_head h hl, fun _ => mayWrite_second h hl⟩

theorem mayWrite_pair {rn rd rd' : Reg} {writes : Bool} (h : destPhys i s = (destRegs i).filterMap (physReg s.mode))
    (hl : destRegs i = if writes then [rd, rd', rn] else [rd, rd']) :
    MayWrite i s rd ∧ MayWrite i s rd' ∧ (writes = true → MayWrite i s rn) := by
  cases writes with
  | false => exact ⟨mayWrite_head h hl, mayWrite_second h hl, fun hf => by cases hf⟩
  | true => exact ⟨mayWrite_head h hl, mayWrite_second h hl, fun _ => mayWrite_of_mem h (by simp [hl])⟩

theorem mayWrite_list {rn r : Reg} {wb : Bool} {l : List Reg}
    (h : destPhys i s = (destRegs i).filterMap (physReg s.mode))
    (hl : destRegs i = if wb then rn :: l else l) :
    (r ∈ l → MayWrite i s r) ∧ (wb = true → MayWrite i s rn) := by
  refine ⟨fun hr => mayWrite_of_mem h ?_, fun hw => mayWrite_of_mem h ?_⟩
  · cases wb <;> simp [hl, hr]
  · simp [hl, hw]

theorem ldm1Table {c : Cond} {am : Mode4} {wb : Bool} {rn : Reg} {list : BitVec 16} :
    LdmTable (.ldm1 c am wb rn list) s wb rn list where
  abort := List.mem_cons_self
  spsr := rfl
  dest _ := (mayWrite_list rfl rfl).1
  base := (mayWrite_list (r := 0) rfl rfl).2
  free _ hw hl := by simp [drawsFree, hw, hl]

/-- The list of LDM (3) with its pc: the pc is no register of the file. -/
theorem getLsbD_withPc {list : BitVec 15} {r : Reg} (hr : r ≠ 15) :
    (withBit (list.setWidth 16) 15 true).getLsbD r.toNat = list.getLsbD r.toNat := by
  have h15 : (15 : Nat) ≠ r.toNat := fun h => hr (BitVec.eq_of_toNat_eq h.symm)
  rw [getLsbD_withBit, if_neg h15, BitVec.getLsbD_setWidth]
  simp [r.isLt]

theorem ldm3Table {c : Cond} {am : Mode4} {wb : Bool} {rn : Reg} {list : BitVec 15} :
    LdmTable (.ldm3 c am wb rn list) s wb rn (withBit (list.setWidth 16) 15 true) where
  abort := List.mem_cons_self
  spsr := rfl
  dest r hr := by
    by_cases h15 : r = 15
    · subst h15
      exact fun p hp => by cases hp
    · refine (mayWrite_list rfl rfl).1 (mem_listRegs.mpr ?_)
      rw [BitVec.getLsbD_setWidth, ← getLsbD_withPc h15, mem_listRegs.mp hr]
      simp [r.isLt]
  base := (mayWrite_list (r := 0) rfl rfl).2
  free hn hw hl := by
    rw [getLsbD_withPc hn] at hl
    simp [drawsFree, hw, hl]

theorem meets_srs {am : Mode4} {wb : Bool} {mode : BitVec 5} : Meets (.srs am wb mode) s (exec (.srs am wb mode) s) :=
  meets_execSrs (keepsMode_of_none rfl rfl) List.mem_cons_self (fun m hm => by simp [storeRange, hm])
    fun m hm hw => by simp [destPhys, hm, hw]

theorem meets_ldrd {c : Cond} {ix : Index3} {up : Bool} {rn rd : Reg} {off : Offset3} :
    Meets (.ldrd c ix up rn rd off) s (exec (.ldrd c ix up rn rd off) s) := by
  obtain ⟨hd, hd', hb⟩ := mayWrite_pair (i := .ldrd c ix up rn rd off) (s := s) rfl rfl
  exact meets_execLdrd ⟨keepsMode_of_none rfl rfl, List.mem_cons_of_mem _ List.mem_cons_self, hd', hb⟩
    hd List.mem_cons_self

/-! ### All the instructions -/

/-- Whatever the instruction: when it goes on, it has ended within its tables or taken one of its exceptions. -/
theorem exec_meets (i : Instr) (s : State) : Meets i s (exec i s) := by
  cases i with
  | adc _ _ _ _ _ => exact meets_arithOp (dpTable rfl rfl rfl rfl)
  | add _ _ _ _ _ => exact meets_arithOp (f := fun x y _ => aluAdd x y false) (dpTable rfl rfl rfl rfl)
  | and _ _ _ _ _ => exact meets_logicOp (dpTable rfl rfl rfl rfl)
  | b _ _ => exact meets_execB (keepsMode_of_none rfl rfl)
  | bic _ _ rn _ _ => exact meets_logicOp (f := fun y => s.readReg rn &&& ~~~ y) (dpTable rfl rfl rfl rfl)
  | bkpt imm => exact meets_execBkpt (imm := imm) List.mem_cons_self
  | bl _ _ => exact meets_execBl (keepsMode_of_none rfl rfl) (mayWrite_head rfl rfl)
  | blx1 _ _ => exact meets_execBlx1 (keepsMode_of_thumb rfl rfl rfl) rfl (mayWrite_head rfl rfl)
  | blx2 _ _ => exact meets_execBlx2 (keepsMode_of_thumb rfl rfl rfl) rfl (mayWrite_head rfl rfl)
  | bx _ _ => exact meets_execBx (keepsMode_of_thumb rfl rfl rfl) rfl
  | bxj _ _ => exact meets_execBxj (keepsMode_of_thumb rfl rfl rfl) rfl
  | cdp _ _ _ _ _ _ _ => exact meets_conditional (endsAs_cdpBody ⟨rfl, List.mem_cons_self, rfl, rfl⟩)
  | cdp2 _ _ _ _ _ _ => exact meets_finish (endsAs_cdpBody ⟨rfl, List.mem_cons_self, rfl, rfl⟩)
  | clz _ _ _ => exact meets_execClz (plainTable rfl rfl rfl rfl)
  | cmn _ _ _ => exact meets_arithTest (f := fun x y => aluAdd x y false) rfl rfl
  | cmp _ _ _ => exact meets_arithTest (f := fun x y => aluSub x y true) rfl rfl
  | cps _ _ _ _ _ _ => exact meets_execCps rfl rfl rfl
  | cpy _ _ _ => exact meets_execCpy (plainTable rfl rfl rfl rfl)
  | eor _ _ _ _ _ => exact meets_logicOp (dpTable rfl rfl rfl rfl)
  | ldc _ _ _ _ _ _ _ =>
    exact meets_conditional
      (endsAs_ldcBody ⟨rfl, List.mem_cons_self, rfl, rfl⟩ (.tail _ (.head _)) (mayWrite_if rfl rfl))
  | ldc2 _ _ _ _ _ _ =>
    exact meets_finish (endsAs_ldcBody ⟨rfl, List.mem_cons_self, rfl, rfl⟩ (.tail _ (.head _)) (mayWrite_if rfl rfl))
  | ldm1 _ _ _ _ _ => exact meets_execLdm1 ldm1Table rfl
  | ldm2 _ _ _ _ => exact meets_execLdm2 (keepsMode_of_none rfl rfl) List.mem_cons_self rfl rfl
  | ldm3 _ _ _ _ _ => exact meets_execLdm3 ldm3Table rfl
  | ldr _ _ _ _ _ _ =>
    exact meets_execLdr rfl rfl List.mem_cons_self (mayWrite_indexed rfl rfl).1 (mayWrite_indexed rfl rfl).2
  | ldrb _ _ _ _ _ _ => exact meets_execLdrb (loadTable_indexed rfl rfl rfl rfl rfl)
  | ldrbt _ _ _ _ _ => exact meets_execLdrbt (loadTable_post rfl rfl rfl rfl rfl)
  | ldrd _ _ _ _ _ _ => exact meets_ldrd
  | ldrex _ _ _ => exact meets_execLdrex rfl (loadTable_plain rfl rfl rfl rfl rfl) rfl
  | ldrh _ _ _ _ _ _ => exact meets_execLdrh (loadTable_indexed rfl rfl rfl rfl rfl)
  | ldrsb _ _ _ _ _ _ => exact meets_execLdrsb (loadTable_indexed rfl rfl rfl rfl rfl)
  | ldrsh _ _ _ _ _ _ => exact meets_execLdrsh (loadTable_indexed rfl rfl rfl rfl rfl)
  | ldrt _ _ _ _ _ => exact meets_execLdrt (loadTable_post rfl rfl rfl rfl rfl)
  | mcr _ _ _ _ _ _ _ => exact meets_conditional (endsAs_mcrBody ⟨rfl, List.mem_cons_self, rfl, rfl⟩)
  | mcr2 _ _ _ _ _ _ => exact meets_finish (endsAs_mcrBody ⟨rfl, List.mem_cons_self, rfl, rfl⟩)
  | mcrr _ _ _ _ _ _ => exact meets_conditional (endsAs_mcrrBody ⟨rfl, List.mem_cons_self, rfl, rfl⟩)
  | mcrr2 _ _ _ _ _ => exact meets_finish (endsAs_mcrrBody ⟨rfl, List.mem_cons_self, rfl, rfl⟩)
  | mla _ _ _ _ _ _ => exact meets_mulOp ⟨rfl, rfl, rfl⟩ (mayWrite_head rfl rfl)
  | mov _ _ _ _ => exact meets_logicOp (f := fun y => y) (dpTable rfl rfl rfl rfl)
  | mrc _ _ _ _ _ _ _ => exact meets_conditional (endsAs_mrcBody rfl List.mem_cons_self rfl rfl (mayWrite_head rfl rfl))
  | mrc2 _ _ _ _ _ _ => exact meets_finish (endsAs_mrcBody rfl List.mem_cons_self rfl rfl (mayWrite_head rfl rfl))
  | mrrc _ _ _ _ _ _ =>
    exact meets_conditional
      (endsAs_mrrcBody ⟨rfl, List.mem_cons_self, rfl, rfl⟩ (mayWrite_second rfl rfl) (mayWrite_head rfl rfl))
  | mrrc2 _ _ _ _ _ =>
    exact meets_finish
      (endsAs_mrrcBody ⟨rfl, List.mem_cons_self, rfl, rfl⟩ (mayWrite_second rfl rfl) (mayWrite_head rfl rfl))
  | mrs _ _ _ => exact meets_execMrs (plainTable rfl rfl rfl rfl)
  | msrImm _ _ _ _ _ => exact meets_execMsrImm ⟨rfl, rfl⟩
  | msrReg _ _ _ _ => exact meets_execMsrReg ⟨rfl, rfl⟩
  | mul _ _ _ _ _ => exact meets_mulOp ⟨rfl, rfl, rfl⟩ (mayWrite_head rfl rfl)
  | mvn _ _ _ _ => exact meets_logicOp (dpTable rfl rfl rfl rfl)
  | orr _ _ _ _ _ => exact meets_logicOp (dpTable rfl rfl rfl rfl)
  | pkhbt _ _ _ _ _ => exact meets_mulPlain (plainTable rfl rfl rfl rfl)
  | pkhtb _ _ _ _ _ => exact meets_mulPlain (plainTable rfl rfl rfl rfl)
  | pld up rn _ => exact meets_execPld (up := up) (rn := rn) (keepsMode_of_none rfl rfl)
  | qadd _ _ _ _ => exact meets_satOp (stickyTable_e (fun _ => rfl) rfl rfl rfl rfl)
  | qadd16 _ _ _ _ => exact meets_parallelOp ⟨rfl, rfl, rfl, mayWrite_head rfl rfl⟩
  | qadd8 _ _ _ _ => exact meets_parallelOp ⟨rfl, rfl, rfl, mayWrite_head rfl rfl⟩
  | qaddsubx _ _ _ _ => exact meets_parallelOp ⟨rfl, rfl, rfl, mayWrite_head rfl rfl⟩
  | qdadd _ _ _ _ => exact meets_satOp (stickyTable_e (fun _ => rfl) rfl rfl rfl rfl)
  | qdsub _ _ _ _ => exact meets_satOp (stickyTable_e (fun _ => rfl) rfl rfl rfl rfl)
  | qsub _ _ _ _ => exact meets_satOp (stickyTable_e (fun _ => rfl) rfl rfl rfl rfl)
  | qsub16 _ _ _ _ => exact meets_parallelOp ⟨rfl, rfl, rfl, mayWrite_head rfl rfl⟩
  | qsub8 _ _ _ _ => exact meets_parallelOp ⟨rfl, rfl, rfl, mayWrite_head rfl rfl⟩
  | qsubaddx _ _ _ _ => exact meets_parallelOp ⟨rfl, rfl, rfl, mayWrite_head rfl rfl⟩
  | rev _ _ _ => exact meets_mulPlain (plainTable rfl rfl rfl rfl)
  | rev16 _ _ _ => exact meets_mulPlain (plainTable rfl rfl rfl rfl)
  | revsh _ _ _ => exact meets_mulPlain (plainTable rfl rfl rfl rfl)
  | rfe _ _ _ => exact meets_execRfe List.mem_cons_self rfl rfl (mayWrite_if rfl rfl)
  | rsb _ _ _ _ _ => exact meets_arithOp (f := fun x y _ => aluSub y x true) (dpTable rfl rfl rfl rfl)
  | rsc _ _ _ _ _ => exact meets_arithOp (f := fun x y cin => aluSub y x cin) (dpTable rfl rfl rfl rfl)
  | sadd16 _ _ _ _ => exact meets_parallelOp ⟨rfl, rfl, rfl, mayWrite_head rfl rfl⟩
  | sadd8 _ _ _ _ => exact meets_parallelOp ⟨rfl, rfl, rfl, mayWrite_head rfl rfl⟩
  | saddsubx _ _ _ _ => exact meets_parallelOp ⟨rfl, rfl, rfl, mayWrite_head rfl rfl⟩
  | sbc _ _ _ _ _ => exact meets_arithOp (dpTable rfl rfl rfl rfl)
  | sel _ _ _ _ => exact meets_execSel (plainTable rfl rfl rfl rfl)
  | setend _ => exact meets_execSetend rfl rfl rfl
  | shadd16 _ _ _ _ => exact meets_parallelOp ⟨rfl, rfl, rfl, mayWrite_head rfl rfl⟩
  | shadd8 _ _ _ _ => exact meets_parallelOp ⟨rfl, rfl, rfl, mayWrite_head rfl rfl⟩
  | shaddsubx _ _ _ _ => exact meets_parallelOp ⟨rfl, rfl, rfl, mayWrite_head rfl rfl⟩
  | shsub16 _ _ _ _ => exact meets_parallelOp ⟨rfl, rfl, rfl, mayWrite_head rfl rfl⟩
  | shsub8 _ _ _ _ => exact meets_parallelOp ⟨rfl, rfl, rfl, mayWrite_head rfl rfl⟩
  | shsubaddx _ _ _ _ => exact meets_parallelOp ⟨rfl, rfl, rfl, mayWrite_head rfl rfl⟩
  | smlaxy _ _ _ _ _ _ _ => exact meets_mulQ (stickyTable_e (fun _ => rfl) rfl rfl rfl rfl)
  | smlad _ _ _ _ _ _ => exact meets_mulQ (stickyTable_v6 (fun _ => rfl) rfl rfl rfl rfl)
  | smlal _ _ _ _ _ _ => exact meets_mulLongOp ⟨rfl, rfl, rfl⟩ (mayWrite_head rfl rfl) (mayWrite_second rfl rfl)
  | smlalxy _ _ _ _ _ _ _ =>
    exact meets_mulLongNoFlags (keepsMode_of_none rfl rfl) (mayWrite_head rfl rfl) (mayWrite_second rfl rfl)
  | smlald _ _ _ _ _ _ =>
    exact meets_mulLongNoFlags (keepsMode_of_none rfl rfl) (mayWrite_head rfl rfl) (mayWrite_second rfl rfl)
  | smlawy _ _ _ _ _ _ => exact meets_mulQ (stickyTable_e (fun _ => rfl) rfl rfl rfl rfl)
  | smlsd _ _ _ _ _ _ => exact meets_mulQ (stickyTable_v6 (fun _ => rfl) rfl rfl rfl rfl)
  | smlsld _ _ _ _ _ _ =>
    exact meets_mulLongNoFlags (keepsMode_of_none rfl rfl) (mayWrite_head rfl rfl) (mayWrite_second rfl rfl)
  | smmla _ _ _ _ _ _ => exact meets_mulPlain (plainTable rfl rfl rfl rfl)
  | smmls _ _ _ _ _ _ => exact meets_mulPlain (plainTable rfl rfl rfl rfl)
  | smmul _ _ _ _ _ => exact meets_mulPlain (plainTable rfl rfl rfl rfl)
  | smuad _ _ _ _ _ => exact meets_mulQ (stickyTable_v6 (fun _ => rfl) rfl rfl rfl rfl)
  | smulxy _ _ _ _ _ _ => exact meets_mulPlain (plainTable rfl rfl rfl rfl)
  | smull _ _ _ _ _ _ => exact meets_mulLongOp ⟨rfl, rfl, rfl⟩ (mayWrite_head rfl rfl) (mayWrite_second rfl rfl)
  | smulwy _ _ _ _ _ => exact meets_mulPlain (plainTable rfl rfl rfl rfl)
  | smusd _ _ _ _ _ => exact meets_mulPlain (plainTable rfl rfl rfl rfl)
  | srs _ _ _ => exact meets_srs
  | ssat _ _ _ _ _ _ => exact meets_satOp (stickyTable_v6 (fun _ => rfl) rfl rfl rfl rfl)
  | ssat16 _ _ _ _ => exact meets_satOp (stickyTable_v6 (fun _ => rfl) rfl rfl rfl rfl)
  | ssub16 _ _ _ _ => exact meets_parallelOp ⟨rfl, rfl, rfl, mayWrite_head rfl rfl⟩
  | ssub8 _ _ _ _ => exact meets_parallelOp ⟨rfl, rfl, rfl, mayWrite_head rfl rfl⟩
  | ssubaddx _ _ _ _ => exact meets_parallelOp ⟨rfl, rfl, rfl, mayWrite_head rfl rfl⟩
  | stc _ _ _ _ _ _ _ =>
    exact meets_conditional
      (endsAs_stcBody ⟨rfl, List.mem_cons_self, rfl, rfl⟩ (.tail _ (.head _)) (mayWrite_if rfl rfl) rfl)
  | stc2 _ _ _ _ _ _ =>
    exact meets_finish
      (endsAs_stcBody ⟨rfl, List.mem_cons_self, rfl, rfl⟩ (.tail _ (.head _)) (mayWrite_if rfl rfl) rfl)
  | stm1 _ _ _ _ _ => exact meets_execStm1 ⟨keepsMode_of_none rfl rfl, List.mem_cons_self, mayWrite_if rfl rfl⟩ rfl rfl
  | stm2 _ _ _ _ => exact meets_execStm2 (keepsMode_of_none rfl rfl) List.mem_cons_self rfl rfl
  | str _ _ _ _ _ _ => exact meets_execStr (storeTable_indexed rfl rfl rfl rfl rfl) rfl
  | strb _ _ _ _ _ _ => exact meets_execStrb (storeTable_indexed rfl rfl rfl rfl rfl) rfl
  | strbt _ _ _ _ _ => exact meets_execStrbt (storeTable_post rfl rfl rfl rfl rfl) rfl
  | strd _ _ _ _ _ _ =>
    exact meets_execStrd ⟨keepsMode_of_none rfl rfl, .tail _ (.head _), mayWrite_if rfl rfl⟩ rfl List.mem_cons_self
  | strex _ _ _ _ => exact meets_execStrex (loadTable_plain rfl rfl rfl rfl rfl) rfl rfl
  | strh _ _ _ _ _ _ => exact meets_execStrh (storeTable_indexed rfl rfl rfl rfl rfl) rfl
  | strt _ _ _ _ _ => exact meets_execStrt (storeTable_post rfl rfl rfl rfl rfl) rfl
  | sub _ _ _ _ _ => exact meets_arithOp (f := fun x y _ => aluSub x y true) (dpTable rfl rfl rfl rfl)
  | swi _ imm => exact meets_execSwi (imm := imm) List.mem_cons_self
  | swp _ _ _ _ => exact meets_execSwp (loadTable_plain rfl rfl rfl rfl rfl) rfl
  | swpb _ _ _ _ => exact meets_execSwpb (loadTable_plain rfl rfl rfl rfl rfl) rfl
  | sxtab _ _ _ _ _ => exact meets_mulPlain (plainTable rfl rfl rfl rfl)
  | sxtab16 _ _ _ _ _ => exact meets_mulPlain (plainTable rfl rfl rfl rfl)
  | sxtah _ _ _ _ _ => exact meets_mulPlain (plainTable rfl rfl rfl rfl)
  | sxtb _ _ _ _ => exact meets_mulPlain (plainTable rfl rfl rfl rfl)
  | sxtb16 _ _ _ _ => exact meets_mulPlain (plainTable rfl rfl rfl rfl)
  | sxth _ _ _ _ => exact meets_mulPlain (plainTable rfl rfl rfl rfl)
  | teq _ _ _ => exact meets_logicTest rfl rfl
  | tst _ _ _ => exact meets_logicTest rfl rfl
  | uadd16 _ _ _ _ => exact meets_parallelOp ⟨rfl, rfl, rfl, mayWrite_head rfl rfl⟩
  | uadd8 _ _ _ _ => exact meets_parallelOp ⟨rfl, rfl, rfl, mayWrite_head rfl rfl⟩
  | uaddsubx _ _ _ _ => exact meets_parallelOp ⟨rfl, rfl, rfl, mayWrite_head rfl rfl⟩
  | uhadd16 _ _ _ _ => exact meets_parallelOp ⟨rfl, rfl, rfl, mayWrite_head rfl rfl⟩
  | uhadd8 _ _ _ _ => exact meets_parallelOp ⟨rfl, rfl, rfl, mayWrite_head rfl rfl⟩
  | uhaddsubx _ _ _ _ => exact meets_parallelOp ⟨rfl, rfl, rfl, mayWrite_head rfl rfl⟩
  | uhsub16 _ _ _ _ => exact meets_parallelOp ⟨rfl, rfl, rfl, mayWrite_head rfl rfl⟩
  | uhsub8 _ _ _ _ => exact meets_parallelOp ⟨rfl, rfl, rfl, mayWrite_head rfl rfl⟩
  | uhsubaddx _ _ _ _ => exact meets_parallelOp ⟨rfl, rfl, rfl, mayWrite_head rfl rfl⟩
  | umaal _ _ _ _ _ =>
    exact meets_mulLongNoFlags (keepsMode_of_none rfl rfl) (mayWrite_head rfl rfl) (mayWrite_second rfl rfl)
  | umlal _ _ _ _ _ _ => exact meets_mulLongOp ⟨rfl, rfl, rfl⟩ (mayWrite_head rfl rfl) (mayWrite_second rfl rfl)
  | umull _ _ _ _ _ _ => exact meets_mulLongOp ⟨rfl, rfl, rfl⟩ (mayWrite_head rfl rfl) (mayWrite_second rfl rfl)
  | uqadd16 _ _ _ _ => exact meets_parallelOp ⟨rfl, rfl, rfl, mayWrite_head rfl rfl⟩
  | uqadd8 _ _ _ _ => exact meets_parallelOp ⟨rfl, rfl, rfl, mayWrite_head rfl rfl⟩
  | uqaddsubx _ _ _ _ => exact meets_parallelOp ⟨rfl, rfl, rfl, mayWrite_head rfl rfl⟩
  | uqsub16 _ _ _ _ => exact meets_parallelOp ⟨rfl, rfl, rfl, mayWrite_head rfl rfl⟩
  | uqsub8 _ _ _ _ => exact meets_parallelOp ⟨rfl, rfl, rfl, mayWrite_head rfl rfl⟩
  | uqsubaddx _ _ _ _ => exact meets_parallelOp ⟨rfl, rfl, rfl, mayWrite_head rfl rfl⟩
  | usad8 _ _ _ _ => exact meets_mulPlain (plainTable rfl rfl rfl rfl)
  | usada8 _ _ _ _ _ => exact meets_mulPlain (plainTable rfl rfl rfl rfl)
  | usat _ _ _ _ _ _ => exact meets_satOp (stickyTable_v6 (fun _ => rfl) rfl rfl rfl rfl)
  | usat16 _ _ _ _ => exact meets_satOp (stickyTable_v6 (fun _ => rfl) rfl rfl rfl rfl)
  | usub16 _ _ _ _ => exact meets_parallelOp ⟨rfl, rfl, rfl, mayWrite_head rfl rfl⟩
  | usub8 _ _ _ _ => exact meets_parallelOp ⟨rfl, rfl, rfl, mayWrite_head rfl rfl⟩
  | usubaddx _ _ _ _ => exact meets_parallelOp ⟨rfl, rfl, rfl, mayWrite_head rfl rfl⟩
  | uxtab _ _ _ _ _ => exact meets_mulPlain (plainTable rfl rfl rfl rfl)
  | uxtab16 _ _ _ _ _ => exact meets_mulPlain (plainTable rfl rfl rfl rfl)
  | uxtah _ _ _ _ _ => exact meets_mulPlain (plainTable rfl rfl rfl rfl)
  | uxtb _ _ _ _ => exact meets_mulPlain (plainTable rfl rfl rfl rfl)
  | uxtb16 _ _ _ _ => exact meets_mulPlain (plainTable rfl rfl rfl rfl)
  | uxth _ _ _ _ => exact meets_mulPlain (plainTable rfl rfl rfl rfl)

end Sys2Proof.Machine
end

section
/-! The frames of all the instructions (O11 to O14). -/

namespace Sys2Proof.Machine

section
variable {i : Instr} {s t a : State} {e : Exception}

/-- An aborted LDREX has moved nothing but the monitors and the count of free values. -/
theorem abortedLdrex_eq (s : State) (x : Word) :
    abortedLdrex s x = { s with
      localMonitor := (abortedLdrex s x).localMonitor
      globalMonitor := (abortedLdrex s x).globalMonitor
      freeCount := (abortedLdrex s x).freeCount } := by
  unfold abortedLdrex State.markGlobal State.markLocal State.drawn
  split_ifs <;> rfl

theorem took_of_next (h : takeException e s = .next t) : s.took e t := by
  obtain ⟨-, -, rfl⟩ := (takeException_next e s t).mp h
  rfl

theorem AbortsFrom.took (ha : AbortsFrom i s a) (h : takeException e a = .next t) : s.took e t := by
  obtain ⟨-, -, rfl⟩ := (takeException_next e a t).mp h
  rcases ha with rfl | ⟨c, rn, rd, -, rfl⟩
  · rfl
  · rw [abortedLdrex_eq]
    rfl

/-- An instruction that goes on has ended within its tables or taken one of its exceptions. -/
theorem ended_or_tookOne (h : exec i s = .next t) : Ended i s t ∨ s.tookOne i t := by
  rcases exec_meets i s t h with hend | ⟨e, he, a, ha, ht⟩
  · exact .inl hend
  · exact .inr ⟨e, he, ha.took ht⟩

theorem State.took.mem (h : s.took e t) : t.mem = s.mem := by rw [h]; rfl

theorem State.took.written (h : s.took e t) : t.written = s.written := by rw [h]; rfl

end

/-- Settles O11: every write of a register is to one the tables name. -/
theorem registerFrame : Obligations.RegisterFrame := by
  intro i s p hp t ht
  rcases ended_or_tookOne ht with hend | htook
  · exact .inr (hend.within.regs p hp)
  · exact .inl htook

/-- Settles O12: every write of a status register is to the bits and the SPSR the tables name. -/
theorem statusFrame : Obligations.StatusFrame := by
  intro i s t ht
  rcases ended_or_tookOne ht with hend | htook
  · refine .inr ⟨hend.within.cpsr, fun m hm => hend.within.spsr m fun he => ?_, hend.within.sticky⟩
    cases hw : writesSpsr i with
    | true =>
      simp only [effectOf, hw, if_true, Option.some.injEq] at he
      exact hm hw he.symm
    | false => simp [effectOf, hw] at he
  · exact .inl htook

/-- Settles O13: every store is to the bytes the tables name, and exception entry stores nothing. -/
theorem memoryFrame : Obligations.MemoryFrame := by
  intro i s a t ht hout
  have keeps : s.tookOne i t → t.byteAt a = s.byteAt a ∧ (a.toNat ∈ t.written ↔ a.toNat ∈ s.written) := by
    rintro ⟨e, -, htook⟩
    rw [State.byteAt, State.byteAt, htook.mem, htook.written]
    exact ⟨rfl, Iff.rfl⟩
  rcases ended_or_tookOne ht with hend | htook
  · rcases hout with ho | htook
    · exact hend.within.bytes a ho
    · exact keeps htook
  · exact keeps htook

/-- Settles O14: on an exception only an aborted LDREX has moved the monitors or the count of free values. -/
theorem systemFrame : Obligations.SystemFrame := by
  intro i s t ht
  rcases exec_meets i s t ht with hend | ⟨e, -, a, ha, he⟩
  · obtain ⟨hw, -, -, -⟩ := hend
    exact ⟨hw.coproc, hw.localMonitor, hw.globalMonitor, hw.written, hw.hazard, hw.free, hw.params, hw.irqLine,
      hw.fiqLine, hw.abortLine⟩
  · obtain ⟨-, -, rfl⟩ := (takeException_next e a t).mp he
    rcases ha with rfl | ⟨c, rn, rd, rfl, rfl⟩
    · exact ⟨fun _ _ => rfl, fun _ => rfl, fun _ _ => rfl, fun _ => rfl, fun _ => rfl, fun _ => rfl, rfl, rfl, rfl, rfl⟩
    · have never : ∀ {p : Prop}, true = false → p := fun h => Bool.noConfusion h
      rw [abortedLdrex_eq]
      exact ⟨fun _ _ => rfl, never, never, fun _ => rfl, fun _ => rfl, never, rfl, rfl, rfl, rfl⟩

end Sys2Proof.Machine
end

section
/-! Rules for running an instruction, the conditions (O9), and where an instruction stops (O58, O59). -/

namespace Sys2Proof.Machine

/-! ### Running a body -/

section
variable {c : Cond} {s t u : State}

theorem finish_conditional_of_pass {body : Exec State} (hc : conditionPassed c s = true) :
    finish s (conditional c s body) = finish s body := by
  rw [conditional_pass _ hc]

/-- A part of a body that answers hands its value on. -/
theorem Exec.bind_of_ok {α β : Type} {x : Exec α} {a : α} {f : α → Exec β} (h : x = .ok a) : (x >>= f) = f a := by
  rw [h]
  rfl

/-- A part of a body that stops ends it. -/
theorem Exec.bind_of_error {α β : Type} {x : Exec α} {e : Stop} {f : α → Exec β} (h : x = .error e) :
    (x >>= f) = .error e := by
  rw [h]
  rfl

/-- A check that passes drops out of a body. -/
theorem require_bind {β : Type} {b : Bool} {why : Unpredictable} {f : Unit → Exec β} (h : b = true) :
    (require b why >>= f) = f () :=
  Exec.bind_of_ok ((require_ok b why).mpr h)

theorem finish_advance (hu : u.pc = s.pc) (hpc : s.pc.toNat + 4 < 2 ^ 32) : finish s (advance u) = .next u.past :=
  finish_ok ((advance_ok u _).mpr ⟨by rwa [hu], rfl⟩)

theorem stopsAs_finish {body : Exec State} {why : Unpredictable} (h : body = unpredictable why) :
    stopsAs (finish s body) why := by
  rw [h]
  rfl

/-- A check that fails stops a body. -/
theorem require_bind_of_not {β : Type} {b : Bool} {why : Unpredictable} {f : Unit → Exec β} (h : b = false) :
    (require b why >>= f) = unpredictable why := by
  rw [h]
  rfl

theorem stopsAs_require {b : Bool} {why : Unpredictable} {f : Unit → Exec State} (hc : conditionPassed c s = true)
    (h : b = false) : stopsAs (finish s (conditional c s (require b why >>= f))) why := by
  rw [finish_conditional_of_pass hc]
  exact stopsAs_finish (require_bind_of_not h)

/-- A check that stops at one register stops a body there. -/
theorem stopsAs_check {α : Type} {r r' : Reg} {check : Reg → Exec α} {why : Unpredictable} {f : α → Exec State}
    (hc : conditionPassed c s = true) (hr : (r == r') = true) (h : check r' = unpredictable why) :
    stopsAs (finish s (conditional c s (check r >>= f))) why := by
  rw [finish_conditional_of_pass hc, beq_iff_eq.mp hr]
  exact stopsAs_finish (Exec.bind_of_error h)

theorem requireNoPc_of_any {rs : List Reg} (h : rs.any (fun r => r == 15) = true) :
    requireNoPc rs = unpredictable .r15Operand := by
  obtain ⟨r, hr, h15⟩ := List.any_eq_true.mp h
  exact requireNoPc_of_mem (beq_iff_eq.mp h15 ▸ hr)

/-- A check of several registers for R15 that fails stops a body. -/
theorem stopsAs_requireNoPc {rs : List Reg} {f : Unit → Exec State} (hc : conditionPassed c s = true)
    (h : rs.any (fun r => r == 15) = true) : stopsAs (finish s (conditional c s (requireNoPc rs >>= f)))
      .r15Operand := by
  rw [finish_conditional_of_pass hc]
  exact stopsAs_finish (Exec.bind_of_error (requireNoPc_of_any h))

end

/-! ### Conditions -/

theorem conditionPassed_eq_getD (c : Cond) (s : State) :
    conditionPassed c s =
      (let n := s.cpsr.getLsbD 31
       let z := s.cpsr.getLsbD 30
       let c' := s.cpsr.getLsbD 29
       let v := s.cpsr.getLsbD 28
       [z, !z, c', !c', n, !n, v, !v, c' && !z, !c' || z, n == v, n != v, !z && (n == v), z || (n != v), true].getD
        c.code.toNat false) := by
  cases c <;> rfl

/-- Whatever the instruction, when its condition fails only the pc moves (R16). -/
theorem exec_of_fail (i : Instr) (s : State) (h : conditionPassed (instrCond i) s = false)
    (hpc : s.pc.toNat + 4 < 2 ^ 32) : exec i s = .next s.past := by
  cases i
  case blx1 | cps | pld | rfe | setend | srs | bkpt | cdp2 | ldc2 | stc2 | mcr2 | mrc2 | mcrr2 | mrrc2 => cases h
  case swi c imm =>
    have hc : conditionPassed c s = false := h
    change execSwi c imm s = _
    rw [execSwi, hc]
    exact finish_advance rfl hpc
  case ldrex c rn rd =>
    have hc : conditionPassed c s = false := h
    change execLdrex c rn rd s = _
    rw [execLdrex, conditional_fail _ hc, (advance_ok s s.past).mpr ⟨hpc, rfl⟩]
    rfl
  all_goals exact finish_conditional_of_fail _ hpc h

/-- Settles O9: the table is read off the codes; an instruction whose condition fails is passed over. -/
theorem conditionsDecide : Obligations.ConditionsDecide :=
  fun i s => ⟨conditionPassed_eq_getD (instrCond i) s, fun h hpc => exec_of_fail i s h hpc⟩

/-! ### R15 as an operand -/

/-- The registers an operand is checked with may be named in any order. -/
theorem operand2Allowed_perm {l k : List Reg} (h : l.Perm k) (op : Operand2) : operand2Allowed l op =
    operand2Allowed k op := by
  cases op with
  | imm rot imm => rfl
  | shiftImm amount sh rm => rfl
  | shiftReg rs sh rm => exact List.Perm.all_eq ((h.cons rm).cons rs)

/-- Settles O58: the check of the fields `pcForbidden` lists is the first of each instruction's checks, but for the odd
`Rd` of LDRD and STRD, which R14 is not. -/
theorem pcOperandStops : Obligations.PcOperandStops := by
  intro i s h hc
  have neither : ∀ {x y : Reg}, (x == 15 || y == 15) = true → (x != 15 && y != 15) = false := by
    intro x y hxy
    rw [bne, bne, ← Bool.not_or, hxy]
    rfl
  have r15 : ∀ {x : Reg}, (x == 15) = true → (x != 15) = false := fun hx => by rw [bne, hx]; rfl
  cases i
  case adc | add | rsb | rsc | sbc | sub | cmp | cmn | teq | tst | mov | mvn =>
    exact stopsAs_require hc ((Bool.not_eq_true' _).mp h)
  case and | bic | eor | orr =>
    exact stopsAs_require hc ((operand2Allowed_perm (.swap _ _ _) _).trans ((Bool.not_eq_true' _).mp h))
  case clz => exact stopsAs_require hc (neither h)
  case blx2 | bxj | msrReg | mrs | mcr => exact stopsAs_require hc (r15 h)
  case ldrb | ldrbt | ldrh | ldrsb | ldrsh | ldrt | strb | strbt | strh | ldrd | strd =>
    exact stopsAs_check hc h (by rfl)
  case ldm1 | ldm2 | ldm3 | stm1 | stm2 => exact stopsAs_check (check := fun r => checkList r _) hc h rfl
  case rfe | mcr2 => exact stopsAs_finish (require_bind_of_not (r15 h))
  case pld up rn off =>
    have hoff : (offset2Reg off != some 15) = false := by rw [bne, show (offset2Reg off == some 15) = true from h]; rfl
    exact stopsAs_finish (require_bind_of_not hoff)
  case mcrr | mrrc =>
    exact (finish_conditional_of_pass hc).trans
      (stopsAs_finish (Exec.bind_of_error (require_bind_of_not (neither ((Bool.or_comm _ _).trans h)))))
  case mcrr2 | mrrc2 =>
    exact stopsAs_finish (Exec.bind_of_error (require_bind_of_not (neither ((Bool.or_comm _ _).trans h))))
  case ldrex c rn rd =>
    have hpass : conditionPassed c s = true := hc
    have hany : [rd, rn].any (fun r => r == 15) = true := by simpa [pcForbidden, or_comm] using h
    change execLdrex c rn rd s = _
    rw [execLdrex, conditional_pass _ hpass, Exec.bind_of_error (requireNoPc_of_any hany)]
    rfl
  case swp c rn rd rm | swpb c rn rd rm =>
    have hany : [rd, rn, rm].any (fun r => r == 15) = true := by
      simpa [pcForbidden, or_comm, or_left_comm, or_assoc] using h
    exact (finish_conditional_of_pass hc).trans
      (stopsAs_finish (Exec.bind_of_error (Exec.bind_of_error (requireNoPc_of_any hany))))
  case b | bkpt | bl | blx1 | bx | cdp | cdp2 | cps | cpy | ldc | ldc2 | ldr | mrc | mrc2 | msrImm | setend | srs |
    stc | stc2 | str | strt | swi => cases h
  all_goals exact stopsAs_requireNoPc hc (by simpa [pcForbidden, or_comm, or_left_comm, or_assoc] using h)

/-! ### What needs an SPSR -/

section
variable {c : Cond} {s : State}

theorem currentSpsr_of_user (h : s.mode = .usr ∨ s.mode = .sys) : currentSpsr s = unpredictable .noSpsr :=
  currentSpsr_of_none (s.spsr.get_of_no_spsr h)

theorem hasSpsr_of_user {m : Mode} (h : m = .usr ∨ m = .sys) : m.hasSpsr = false := by
  rcases h with rfl | rfl <;> rfl

theorem exec_srs_of_user {am : Mode4} {wb : Bool} {mode : BitVec 5} (h : s.mode = .usr ∨ s.mode = .sys) :
    stopsAs (exec (.srs am wb mode) s) .noSpsr :=
  stopsAs_finish (Exec.bind_of_error (currentSpsr_of_user h))

theorem exec_rfe_of_user {am : Mode4} {wb : Bool} {rn : Reg} (hn : rn ≠ 15) (h : s.mode = .usr) :
    stopsAs (exec (.rfe am wb rn) s) .userMode := by
  have hp : s.mode.privileged = false := by rw [h]; rfl
  exact stopsAs_finish ((require_bind (bne_iff_ne.mpr hn)).trans (require_bind_of_not hp))

theorem setWidth_ne_zero {low : BitVec 15} (h : low ≠ 0) : low.setWidth 16 ≠ 0 := fun hz => by
  refine h (BitVec.eq_of_toNat_eq ?_)
  have := congrArg BitVec.toNat hz
  rwa [BitVec.toNat_setWidth_of_le (by decide)] at this

theorem withPc_ne_zero (low : BitVec 15) : withBit (low.setWidth 16) 15 true ≠ 0 := fun hz => by
  have hb : (withBit (low.setWidth 16) 15 true).getLsbD 15 = (0 : BitVec 16).getLsbD 15 := by rw [hz]
  rw [getLsbD_withBit, if_pos rfl] at hb
  exact absurd hb (by decide)

end

/-- Settles O59: the check for an SPSR, or RFE's for a privileged mode, comes right after those of the registers. -/
theorem userModeStops : Obligations.UserModeStops := by
  intro c am wb rn low list mode s hc hn hm
  have hspsr : s.mode.hasSpsr = false := hasSpsr_of_user hm
  have checked : ∀ {l : BitVec 16}, l ≠ 0 → checkList rn l = .ok () := fun hl => (checkList_ok rn _).mpr ⟨hn, hl⟩
  refine ⟨fun hl => ?ldm2, ?ldm3, fun hl => ?stm2, exec_srs_of_user hm, exec_rfe_of_user hn⟩
  case ldm2 =>
    exact (finish_conditional_of_pass hc).trans (stopsAs_finish
      ((Exec.bind_of_ok (checked (setWidth_ne_zero hl))).trans (require_bind_of_not hspsr)))
  case ldm3 =>
    exact (finish_conditional_of_pass hc).trans (stopsAs_finish
      ((Exec.bind_of_ok (checked (withPc_ne_zero low))).trans (Exec.bind_of_error (currentSpsr_of_user hm))))
  case stm2 =>
    exact (finish_conditional_of_pass hc).trans (stopsAs_finish
      ((Exec.bind_of_ok (checked hl)).trans (require_bind_of_not hspsr)))

end Sys2Proof.Machine
end

section
/-! One step of the machine: what its stages answer (R97, R580, R585, R630). -/

namespace Sys2Proof.Machine

variable {s t u a : State} {e : Exception} {i : Instr}

/-! ### Reads as values -/

theorem memByte_iff (s : State) (a : Word) (v : Byte) : memByte s a = .ok v ↔ s.dataByte a = some v := by
  rw [memByte_ok, State.dataByte]
  cases hm : s.mapped a <;> simp

theorem memWord_iff (s : State) (a v : Word) : memWord s a = .ok v ↔ s.wordAt a = some v := by
  simp only [memWord_ok, memByte_iff, State.wordAt, wordOfBytes, BitVec.append_assoc, BitVec.cast_eq]
  constructor
  · rintro ⟨b0, b1, b2, b3, h0, h1, h2, h3, rfl⟩
    simp only [h0, h1, h2, h3]
  · intro h
    split at h
    next b0 b1 b2 b3 h0 h1 h2 h3 =>
      cases h
      exact ⟨b0, b1, b2, b3, h0, h1, h2, h3, rfl⟩
    next => cases h

theorem memHalf_iff (s : State) (a : Word) (v : Half) : memHalf s a = .ok v ↔ s.halfAt a = some v := by
  simp only [memHalf_ok, memByte_iff, State.halfAt]
  constructor
  · rintro ⟨b0, b1, h0, h1, rfl⟩
    simp only [h0, h1]
  · intro h
    split at h
    next b0 b1 h0 h1 =>
      cases h
      exact ⟨b0, b1, h0, h1, rfl⟩
    next => cases h

theorem dataByte_some {b : Byte} {x : Word} (h : s.dataByte x = some b) : s.mapped x = true ∧ s.byteAt x = some b :=
  (memByte_ok s x b).mp ((memByte_iff s x b).mpr h)

theorem mappedBytes_iff (s : State) (a : Word) (n : Nat) :
    s.mappedBytes a n = true ↔ ∀ k < n, s.mapped (a + BitVec.ofNat 32 k) = true := by
  simp [State.mappedBytes]

/-! ### The fetch -/

theorem fetchBytes_of_bytes {a : Word} {bs : List Byte}
    (h : ∀ k b, bs[k]? = some b →
      (a + BitVec.ofNat 32 k).toNat ∉ s.written ∧ s.byteAt (a + BitVec.ofNat 32 k) = some b) :
    fetchBytes s a bs.length = .ok bs := by
  induction bs generalizing a with
  | nil => rfl
  | cons b bs ih =>
    obtain ⟨hw, hb⟩ := h 0 b rfl
    rw [BitVec.add_zero] at hw hb
    have hrest := ih (a := a + 1) fun k c hk => by
      rw [Word.add_one_add_ofNat]
      exact h (k + 1) c hk
    simp only [List.length_cons, fetchBytes, List.contains_iff_mem, hw, if_false, hb, hrest]
    rfl

/-- Four bytes that hold values the program has not written are fetched as their word. -/
theorem fetch_of_fetchedWord {w : Word} (hw : s.fetchedWord = some w)
    (hn : ∀ k < 4, (s.pc + BitVec.ofNat 32 k).toNat ∉ s.written) : fetch s = .decoded (decode s.arch w) := by
  unfold State.fetchedWord at hw
  split at hw
  next b0 b1 b2 b3 h0 h1 h2 h3 =>
    have bytes : ∀ k b, [b0, b1, b2, b3][k]? = some b →
        k < 4 ∧ s.mapped (s.pc + BitVec.ofNat 32 k) = true ∧ s.byteAt (s.pc + BitVec.ofNat 32 k) = some b := by
      intro k b hk
      match k, hk with
      | 0, hk => cases hk; exact ⟨by omega, dataByte_some (by simpa using h0)⟩
      | 1, hk => cases hk; exact ⟨by omega, dataByte_some h1⟩
      | 2, hk => cases hk; exact ⟨by omega, dataByte_some h2⟩
      | 3, hk => cases hk; exact ⟨by omega, dataByte_some h3⟩
    have hmap : s.mappedBytes s.pc 4 = true := (mappedBytes_iff s _ 4).mpr fun k hk => by
      obtain ⟨b, hb⟩ : ∃ b, [b0, b1, b2, b3][k]? = some b := ⟨_, List.getElem?_eq_getElem hk⟩
      exact (bytes k b hb).2.1
    have hfetch : fetchBytes s s.pc 4 = .ok [b0, b1, b2, b3] := fetchBytes_of_bytes fun k b hk =>
      ⟨hn k (bytes k b hk).1, (bytes k b hk).2.2⟩
    cases hw
    simp only [fetch, hmap, if_true, hfetch, decodeBytes, wordOfBytes, BitVec.append_assoc, BitVec.cast_eq]
  next => cases hw

/-- An instruction that was fetched was decoded from a word. -/
theorem decode_of_fetch (h : fetch s = .decoded (.instr i)) : ∃ w, decode s.arch w = .instr i := by
  unfold fetch at h
  split at h
  · split at h
    next bs hbs =>
      have hd : decodeBytes s.arch s.params.cp15B bs = .instr i := Fetched.decoded.inj h
      unfold decodeBytes at hd
      split at hd
      · exact ⟨_, hd⟩
      · cases hd
    next => cases h
  · cases h

/-! ### The stages of a step -/

theorem stateStop_eq_none (s : State) : stateStop s = none ↔ s.supported := by
  unfold stateStop State.supported State.legalMode
  cases s.alignU && s.params.cp15B <;> cases s.isV6 && s.params.cp15B && s.bitE <;>
    cases (Mode.ofCode (psrMode s.cpsr)) <;> simp

theorem pendingInterrupt_eq_none (s : State) : pendingInterrupt s = none ↔ s.noInterrupt := by
  unfold pendingInterrupt State.noInterrupt
  cases s.fiqLine && !s.bitF <;> cases s.irqLine && !s.bitI <;> cases s.isV6 && s.abortLine && !s.bitA <;> simp

theorem stepInstr_of_inArm (h : s.inArm) : stepInstr s = runFetched s := by
  obtain ⟨hT, hJ, hpc⟩ := h
  unfold stepInstr
  rw [hT, hJ, if_neg (by decide), if_pos hpc]

/-- Past the checks of the boundary a step runs what it fetches. -/
theorem stepAwake_of_inArm (hs : s.supported) (hi : s.noInterrupt) (harm : s.inArm) : stepAwake s = runFetched s := by
  unfold stepAwake
  rw [(stateStop_eq_none s).mpr hs, (pendingInterrupt_eq_none s).mpr hi]
  exact stepInstr_of_inArm harm

/-- How a step that goes on got there: an interrupt or a refused fetch, the Undefined pattern, or an instruction. -/
inductive StepsTo (s u : State) : Prop where
  | taken (e : Exception) (h : takeException e s = .next u)
  | passed (harm : s.inArm) (h : u = s.past)
  | ran (i : Instr) (harm : s.inArm) (hf : fetch s = .decoded (.instr i)) (h : exec i s = .next u)

theorem stepsTo_of_runDecoded {d : Decoded} (harm : s.inArm) (hf : fetch s = .decoded d)
    (h : runDecoded d s = .next u) : StepsTo s u := by
  cases d with
  | instr i =>
    unfold runDecoded at h
    split at h
    next d j hj =>
      cases hj
      split at h
      · cases h
      · exact .ran _ harm hf h
    next hj => cases hj
    next hj => cases hj
  | undefinedPattern c =>
    rcases (finish_next s u _).mp h with hok | ⟨hda, -⟩ | ⟨-, ht⟩
    · unfold conditional at hok
      split at hok
      · cases hok
      · obtain ⟨-, rfl⟩ := (advance_ok s u).mp hok
        exact .passed harm rfl
    · unfold conditional at hda
      split at hda
      · cases hda
      · exact absurd hda (by unfold advance; split <;> intro h <;> cases h)
    · exact .taken _ ht
  | reject r => cases h

theorem stepsTo_of_stepAwake (h : stepAwake s = .next u) : s.legalMode ∧ StepsTo s u := by
  unfold stepAwake at h
  split at h
  next o ho =>
    subst h
    unfold stateStop at ho
    split_ifs at ho <;> cases ho
  next hnone =>
    refine ⟨((stateStop_eq_none s).mp hnone).2.2, ?_⟩
    split at h
    next e he => exact .taken e h
    next =>
      unfold stepInstr at h
      split at h
      · cases h
      next hTJ =>
        split at h
        next hpc =>
          have harm : s.inArm := by
            rw [Bool.or_eq_true, not_or] at hTJ
            exact ⟨by simpa using hTJ.1, by simpa using hTJ.2, hpc⟩
          unfold runFetched at h
          split at h
          · exact .taken _ h
          · cases h
          next d hd => exact stepsTo_of_runDecoded harm hd h
        next => cases h

/-- A step that goes on: the stages between the waking and the settling of the hazard. -/
theorem stepsTo_of_step (h : step s = .next t) : ∃ u, t = u.settle ∧ s.wake.legalMode ∧ StepsTo s.wake u := by
  unfold step at h
  split at h
  next u hu =>
    cases h
    exact ⟨u, rfl, stepsTo_of_stepAwake hu⟩
  next => cases h
  next => cases h

/-! ### The hazard around a step -/

theorem State.wake_of_not_live (h : s.wake.bankHazard ≠ .live) : s.wake = s := by
  unfold State.wake at h ⊢
  split
  next ha => rw [if_pos ha] at h; exact absurd rfl h
  next => rfl

theorem State.wake_of_none (h : s.bankHazard = .none) : s.wake = s := by
  rw [State.wake, if_neg (by rw [h]; decide)]

theorem State.settle_of_not_live (h : s.bankHazard ≠ .live) : s.settle = s := by
  rw [State.settle, if_neg h]

/-- An exception is taken only with no hazard live, so around it nothing moves the hazard. -/
theorem took_of_takeException (ha : a.bankHazard = s.wake.bankHazard) (h : takeException e a = .next u)
    (ht : s.wake.took e u) : s.took e u.settle := by
  obtain ⟨hl, -, hu⟩ := (takeException_next e a u).mp h
  have hw := State.wake_of_not_live (ha ▸ hl)
  rw [hw] at ht
  rwa [State.settle_of_not_live (show u.bankHazard ≠ .live by rw [hu]; exact hl)]

theorem AbortsFrom.bankHazard (h : AbortsFrom i s a) : a.bankHazard = s.bankHazard := by
  rcases h with rfl | ⟨c, rn, rd, -, rfl⟩
  · rfl
  · rw [abortedLdrex_eq]

end Sys2Proof.Machine
end

section
/-! User mode is left only by an exception (O10). -/

namespace Sys2Proof.Machine

variable {s t u : State} {i : Instr}

theorem physReg_usr {r : Reg} {p : PhysReg} (h : physReg .usr r = some p) : ∃ n, p = .usr n := by
  unfold physReg at h
  split at h
  · cases h
    exact ⟨_, rfl⟩
  · cases h

theorem mem_filterMap_usr {l : List Reg} {p : PhysReg} (h : p ∈ l.filterMap (physReg .usr)) : ∃ n, p = .usr n := by
  obtain ⟨r, -, hr⟩ := List.mem_filterMap.mp h
  exact physReg_usr hr

/-- From User mode only SRS could reach another bank, and it needs an SPSR. -/
theorem destPhys_usr (hm : s.mode = .usr) (hsrs : ∀ am wb mode, i ≠ .srs am wb mode) {p : PhysReg}
    (h : p ∈ destPhys i s) : ∃ n, p = .usr n := by
  have rest : ∀ {l : List Reg}, p ∈ l.filterMap (physReg s.mode) → ∃ n, p = .usr n := fun hp =>
      mem_filterMap_usr (hm ▸ hp)
  cases i
  case srs => exact absurd rfl (hsrs _ _ _)
  case ldm2 => exact mem_filterMap_usr h
  all_goals exact rest h

theorem SpsrFile.ext_get {f g : SpsrFile} (h : ∀ m, m ≠ .usr → f.get m = g.get m) : f = g := by
  have field : ∀ m, m ≠ .usr → ∀ x y, f.get m = some x → g.get m = some y → x = y := fun m hm x y hx hy => by
    rw [h m hm, hy] at hx
    exact (Option.some.inj hx).symm
  cases f
  cases g
  congr 1
  · exact field .fiq (by decide) _ _ rfl rfl
  · exact field .irq (by decide) _ _ rfl rfl
  · exact field .svc (by decide) _ _ rfl rfl
  · exact field .abt (by decide) _ _ rfl rfl
  · exact field .und (by decide) _ _ rfl rfl

/-- What User mode keeps. -/
def KeepsUser (s t : State) : Prop :=
  psrMode t.cpsr = 0b10000 ∧ t.cpsr &&& 0x1C0 = s.cpsr &&& 0x1C0 ∧ t.spsr = s.spsr ∧
    ∀ p, (∀ n, p ≠ .usr n) → t.readPhys p = s.readPhys p

theorem mode_of_user (h : psrMode s.cpsr = 0b10000) : s.mode = .usr := by
  rw [State.mode, h, Mode.ofCode]
  rfl

theorem Ended.keepsUser (hend : Ended i s u) (hs : psrMode s.cpsr = 0b10000) (hx : exec i s = .next u) :
    KeepsUser s u := by
  have hm := mode_of_user hs
  have hcpsr := hend.user hm
  refine ⟨?_, ?_, SpsrFile.ext_get fun m hne => hend.within.spsr m ?_, fun p hp => hend.within.regs p fun hd => ?_⟩
  · rw [psrMode_eq_of_and rfl hcpsr, hs]
  · have hmask : (0x1DF : Word) &&& 0x1C0 = 0x1C0 := by decide
    rw [← hmask, ← BitVec.and_assoc, ← BitVec.and_assoc, hcpsr]
  · rw [effectOf, hm]
    split
    · exact fun h => hne (Option.some.inj h).symm
    · exact fun h => by cases h
  · have hsrs : ∀ am wb mode, i ≠ .srs am wb mode := by
      rintro am wb mode rfl
      have hstop := exec_srs_of_user (am := am) (wb := wb) (mode := mode) (.inl hm)
      rw [hx] at hstop
      cases hstop
    obtain ⟨n, rfl⟩ := destPhys_usr hm hsrs hd
    exact hp n rfl

/-- Settles O10: an instruction that goes on ends within its tables, which in User mode hold nothing privileged, or
takes one of its exceptions. -/
theorem userModeLeavesOnlyByException : Obligations.UserModeLeavesOnlyByException := by
  intro s hs t ht
  obtain ⟨u, rfl, -, hu⟩ := stepsTo_of_step ht
  have hw : psrMode s.wake.cpsr = 0b10000 := by rwa [State.wake_cpsr]
  have settled : KeepsUser s.wake u → KeepsUser s u.settle := by
    rintro ⟨hm, hc, hsp, hr⟩
    simp only [State.wake_cpsr, State.wake_spsr, State.readPhys, State.wake_regs] at hc hsp hr
    simp only [KeepsUser, State.settle_cpsr, State.settle_spsr, State.readPhys, State.settle_regs]
    exact ⟨hm, hc, hsp, hr⟩
  cases hu with
  | taken e h => exact .inr ⟨e, took_of_takeException rfl h (took_of_next h)⟩
  | passed harm h => exact .inl (settled (h ▸ ⟨hw, rfl, rfl, fun _ _ => rfl⟩))
  | ran i harm hf h =>
    rcases exec_meets i s.wake u h with hend | ⟨e, -, a, ha, he⟩
    · exact .inl (settled (hend.keepsUser hw h))
    · exact .inr ⟨e, took_of_takeException ha.bankHazard he (ha.took he)⟩

end Sys2Proof.Machine
end

section
/-! The decoder reads back what the encoder writes (O1). -/

namespace Sys2Proof

open Fields

variable {a : Arch} {c : Cond} {f : Fields} {i : Instr}


/-! ### Fields cut from a bit vector join to it -/

theorem nib_append_nibble (x : BitVec 8) :
    nib (x.getLsbD 7) (x.getLsbD 6) (x.getLsbD 5) (x.getLsbD 4) ++ nibble x 0 = x := by
  apply BitVec.eq_of_getLsbD_eq
  intro k hk
  simp only [nibble, BitVec.getLsbD_append, getLsbD_nib, BitVec.getLsbD_extractLsb']
  interval_cases k <;> simp

theorem nibble_append_imm8 (x : BitVec 12) :
    nibble x 2 ++ nib (x.getLsbD 7) (x.getLsbD 6) (x.getLsbD 5) (x.getLsbD 4) ++ nibble x 0 = x := by
  apply BitVec.eq_of_getLsbD_eq
  intro k hk
  simp only [nibble, BitVec.getLsbD_append, getLsbD_nib, BitVec.getLsbD_extractLsb']
  interval_cases k <;> simp

theorem nibbles_append_imm8 (x : BitVec 16) :
    nibble x 3 ++ nibble x 2 ++ nib (x.getLsbD 7) (x.getLsbD 6) (x.getLsbD 5) (x.getLsbD 4) ++ nibble x 0 = x := by
  apply BitVec.eq_of_getLsbD_eq
  intro k hk
  simp only [nibble, BitVec.getLsbD_append, getLsbD_nib, BitVec.getLsbD_extractLsb']
  interval_cases k <;> simp

theorem nibbles_append_nibbles (x : BitVec 16) : nibble x 3 ++ nibble x 2 ++ nibble x 1 ++ nibble x 0 = x := by
  apply BitVec.eq_of_getLsbD_eq
  intro k hk
  simp only [nibble, BitVec.getLsbD_append, BitVec.getLsbD_extractLsb']
  interval_cases k <;> simp

theorem nibble_append_nibble (x : BitVec 8) : nibble x 1 ++ nibble x 0 = x := by
  apply BitVec.eq_of_getLsbD_eq
  intro k hk
  simp only [nibble, BitVec.getLsbD_append, BitVec.getLsbD_extractLsb']
  interval_cases k <;> simp

theorem imm24_imm24Fields (cd : BitVec 4) (b27 b26 b25 b24 : Bool) (x : BitVec 24) :
    (imm24Fields cd b27 b26 b25 b24 x).imm24 = x := by
  apply BitVec.eq_of_getLsbD_eq
  intro k hk
  simp only [imm24Fields, imm24, low4, nibble, BitVec.getLsbD_append, getLsbD_nib, BitVec.getLsbD_extractLsb']
  interval_cases k <;> simp

theorem hi4_append_bit : ∀ x : BitVec 5, hi4 x ++ BitVec.ofBool (x.getLsbD 0) = x := by decide

theorem bit_append_low4 : ∀ x : BitVec 5, BitVec.ofBool (x.getLsbD 4) ++ x.extractLsb' 0 4 = x := by decide

theorem nib_bits : ∀ x : BitVec 4, nib (x.getLsbD 3) (x.getLsbD 2) (x.getLsbD 1) (x.getLsbD 0) = x := by decide

theorem three_bits : ∀ x : BitVec 3,
    BitVec.ofBool (x.getLsbD 2) ++ BitVec.ofBool (x.getLsbD 1) ++ BitVec.ofBool (x.getLsbD 0) = x := by decide

theorem extractLsb'_zero_nib : ∀ x y : Bool, ((nib x y false false).extractLsb' 0 2 == 0) = true := by decide

theorem extractLsb'_two_nib : ∀ (x : BitVec 2) (m b : Bool),
    (nib (x.getLsbD 1) (x.getLsbD 0) m b).extractLsb' 2 2 = x := by decide

theorem extractLsb'_fifteen (b : Bool) (x : BitVec 15) : (BitVec.ofBool b ++ x).extractLsb' 0 15 = x := by
  apply BitVec.eq_of_getLsbD_eq
  intro k hk
  rw [BitVec.getLsbD_extractLsb', BitVec.getLsbD_append]
  simp [hk]

theorem getLsbD_fifteen (b : Bool) (x : BitVec 15) : (BitVec.ofBool b ++ x).getLsbD 15 = b := by
  rw [BitVec.getLsbD_append]
  simp

/-! ### The fields of each operand -/

theorem operand2_op2Fields (cd : BitVec 4) (o3 o2 o1 o0 sf : Bool) (rn rd : Reg) (op : Operand2) :
    (op2Fields cd o3 o2 o1 o0 sf rn rd op).operand2 = op := by
  cases op with
  | imm rot imm => exact congrArg (Operand2.imm rot) (nib_append_nibble imm)
  | shiftImm amount sh rm =>
    exact congrArg₂ (Operand2.shiftImm · · rm) (hi4_append_bit amount) (ShiftType.ofBits_bits sh)
  | shiftReg rs sh rm => exact congrArg (Operand2.shiftReg rs · rm) (ShiftType.ofBits_bits sh)

theorem offset2_mode2Fields (cd : BitVec 4) (p u b w l : Bool) (rn rd : Reg) (off : Offset2) :
    (mode2Fields cd p u b w l rn rd off).offset2 = off := by
  cases off with
  | imm off => exact congrArg Offset2.imm (nibble_append_imm8 off)
  | reg amount sh rm => exact congrArg₂ (Offset2.reg · · rm) (hi4_append_bit amount) (ShiftType.ofBits_bits sh)

theorem offset3_mode3Fields (cd : BitVec 4) (ix : Index3) (u l sb hb : Bool) (rn rd : Reg) (off : Offset3) :
    (mode3Fields cd ix u l sb hb rn rd off).offset3 = off := by
  cases off with
  | imm off => exact congrArg Offset3.imm (nibble_append_nibble off)
  | reg rm => rfl

theorem offset3Fixed_mode3Fields (cd : BitVec 4) (ix : Index3) (u l sb hb : Bool) (rn rd : Reg) (off : Offset3) :
    (mode3Fields cd ix u l sb hb rn rd off).offset3Fixed = true := by
  cases off <;> rfl

theorem imm16_listFields (cd : BitVec 4) (am : Mode4) (sb w l : Bool) (rn : Reg) (list : BitVec 16) :
    (listFields cd am sb w l rn list).imm16 = list := nibbles_append_imm8 list

/-! ### The spaces of the opcode map -/

theorem leaf_of_existsIn {fixed : Bool} (hfix : fixed = true) (h : i.existsIn a = true) : leaf a fixed i =
    .instr i := by
  simp only [leaf, h, hfix]

/-- A row whose operands read back as those of `i`. -/
theorem leaf_of_eq {j : Instr} {fixed : Bool} (hfix : fixed = true) (hj : j = i) (h : i.existsIn a = true) :
    leaf a fixed j = .instr i := hj ▸ leaf_of_existsIn hfix (hj ▸ h)

theorem decodeFields_conditional (h : f.cond = c.code) : decodeFields a f = decodeConditional a c f := by
  rw [decodeFields, h, Cond.ofCode_code]

theorem decodeFields_unconditional (h : f.cond = 15) : decodeFields a f = decodeUnconditional a f := by
  rw [decodeFields, h]
  rfl

theorem decode000_of_rows (h : decodeRows000 a c f = .instr i) : decode000 a c f = .instr i := by
  rw [decode000, h]

/-- The data-processing words go to their rows: the compare rows with S = 0 are another space. -/
theorem decodeFields_op2Fields (o3 o2 o1 o0 sf : Bool) (rn rd : Reg) (op : Operand2) (hs : (o3 && !o2 && !sf) = false)
    (h : decodeDataProcessing a c (op2Fields c.code o3 o2 o1 o0 sf rn rd op) = .instr i) :
    decodeFields a (op2Fields c.code o3 o2 o1 o0 sf rn rd op) = .instr i := by
  have hs' : ¬ (o3 && !o2 && !sf) = true := by simp [hs]
  cases op with
  | imm rot imm =>
    rw [decodeFields_conditional rfl]
    exact (if_neg hs').trans h
  | shiftImm amount sh rm =>
    rw [decodeFields_conditional rfl]
    refine decode000_of_rows ?_
    rw [decodeRows000]
    simp only [op2Fields, Bool.and_false]
    exact (if_neg hs').trans h
  | shiftReg rs sh rm =>
    rw [decodeFields_conditional rfl]
    refine decode000_of_rows ?_
    rw [decodeRows000]
    simp only [op2Fields, Bool.false_and]
    exact (if_neg hs').trans h

theorem decodeFields_mode2Fields (p u b w l : Bool) (rn rd : Reg) (off : Offset2)
    (h : decodeWordByte a c (mode2Fields c.code p u b w l rn rd off) = .instr i) :
    decodeFields a (mode2Fields c.code p u b w l rn rd off) = .instr i := by
  rw [decodeFields_conditional (by cases off <;> rfl)]
  cases off <;> exact h

theorem decodeFields_mode3Fields (ix : Index3) (u l sb hb : Bool) (rn rd : Reg) (off : Offset3)
    (hsh : (sb || hb) = true)
    (h : decodeExtra a c (mode3Fields c.code ix u l sb hb rn rd off) = .instr i) :
    decodeFields a (mode3Fields c.code ix u l sb hb rn rd off) = .instr i := by
  rw [decodeFields_conditional (by cases off <;> rfl)]
  cases off with
  | imm off =>
    refine decode000_of_rows ?_
    rw [decodeRows000]
    simpa only [mode3Fields, hsh, Bool.and_self] using h
  | reg rm =>
    refine decode000_of_rows ?_
    rw [decodeRows000]
    simpa only [mode3Fields, hsh, Bool.and_self] using h

/-! ### The fields every form of an operand leaves to the instruction -/

section

variable (cd : BitVec 4) (ix : Index3) (o3 o2 o1 o0 sf p u b w l sb hb : Bool) (rn rd : Reg)

section

variable (op : Operand2)

@[simp] theorem b24_op2Fields : (op2Fields cd o3 o2 o1 o0 sf rn rd op).b24 = o3 := by cases op <;> rfl

@[simp] theorem b23_op2Fields : (op2Fields cd o3 o2 o1 o0 sf rn rd op).b23 = o2 := by cases op <;> rfl

@[simp] theorem b22_op2Fields : (op2Fields cd o3 o2 o1 o0 sf rn rd op).b22 = o1 := by cases op <;> rfl

@[simp] theorem b21_op2Fields : (op2Fields cd o3 o2 o1 o0 sf rn rd op).b21 = o0 := by cases op <;> rfl

@[simp] theorem b20_op2Fields : (op2Fields cd o3 o2 o1 o0 sf rn rd op).b20 = sf := by cases op <;> rfl

@[simp] theorem rn_op2Fields : (op2Fields cd o3 o2 o1 o0 sf rn rd op).rn = rn := by cases op <;> rfl

@[simp] theorem rd_op2Fields : (op2Fields cd o3 o2 o1 o0 sf rn rd op).rd = rd := by cases op <;> rfl

end

section

variable (op : Offset2)

@[simp] theorem b24_mode2Fields : (mode2Fields cd p u b w l rn rd op).b24 = p := by cases op <;> rfl

@[simp] theorem b23_mode2Fields : (mode2Fields cd p u b w l rn rd op).b23 = u := by cases op <;> rfl

@[simp] theorem b22_mode2Fields : (mode2Fields cd p u b w l rn rd op).b22 = b := by cases op <;> rfl

@[simp] theorem b21_mode2Fields : (mode2Fields cd p u b w l rn rd op).b21 = w := by cases op <;> rfl

@[simp] theorem b20_mode2Fields : (mode2Fields cd p u b w l rn rd op).b20 = l := by cases op <;> rfl

@[simp] theorem rn_mode2Fields : (mode2Fields cd p u b w l rn rd op).rn = rn := by cases op <;> rfl

@[simp] theorem rd_mode2Fields : (mode2Fields cd p u b w l rn rd op).rd = rd := by cases op <;> rfl

end

section

variable (op : Offset3)

@[simp] theorem b24_mode3Fields : (mode3Fields cd ix u l sb hb rn rd op).b24 = ix.p := by cases op <;> rfl

@[simp] theorem b23_mode3Fields : (mode3Fields cd ix u l sb hb rn rd op).b23 = u := by cases op <;> rfl

@[simp] theorem b21_mode3Fields : (mode3Fields cd ix u l sb hb rn rd op).b21 = ix.w := by cases op <;> rfl

@[simp] theorem b20_mode3Fields : (mode3Fields cd ix u l sb hb rn rd op).b20 = l := by cases op <;> rfl

@[simp] theorem b6_mode3Fields : (mode3Fields cd ix u l sb hb rn rd op).b6 = sb := by cases op <;> rfl

@[simp] theorem b5_mode3Fields : (mode3Fields cd ix u l sb hb rn rd op).b5 = hb := by cases op <;> rfl

@[simp] theorem rn_mode3Fields : (mode3Fields cd ix u l sb hb rn rd op).rn = rn := by cases op <;> rfl

@[simp] theorem rd_mode3Fields : (mode3Fields cd ix u l sb hb rn rd op).rd = rd := by cases op <;> rfl

end

end

theorem decodeFields_rows000 (hc : f.cond = c.code) (h27 : f.b27 = false) (h26 : f.b26 = false) (h25 : f.b25 = false)
    (h : decodeRows000 a c f = .instr i) : decodeFields a f = .instr i := by
  rw [decodeFields_conditional hc, decodeConditional, h27, h26, h25]
  exact decode000_of_rows h

theorem decodeFields_listFields (am : Mode4) (sb w l : Bool) (rn : Reg) (list : BitVec 16)
    (h : decodeMultiple a c (listFields c.code am sb w l rn list) = .instr i) :
    decodeFields a (listFields c.code am sb w l rn list) = .instr i := (decodeFields_conditional rfl).trans h

theorem decodeFields_mode5Fields (am : Mode5) (n l : Bool) (rn crd cp : BitVec 4) (off : BitVec 8)
    (h : decodeCoprocessor a (some c) (mode5Fields c.code am n l rn crd cp off) = .instr i) :
    decodeFields a (mode5Fields c.code am n l rn crd cp off) = .instr i := (decodeFields_conditional rfl).trans h

theorem imm8_mode5Fields (cd : BitVec 4) (am : Mode5) (n l : Bool) (rn crd cp : BitVec 4) (off : BitVec 8) :
    (mode5Fields cd am n l rn crd cp off).imm8 = off := nib_append_nibble off

theorem not_eq_true_of_not {b : Bool} (h : (!b) = true) : ¬ b = true := by simpa using h

/-- R190, R196: every word the encoder writes leads to its own row of the opcode map. -/
theorem decodeFields_encodeFields (hw : i.WellFormed a = true) (he : i.existsIn a = true) :
    decodeFields a (encodeFields i) = .instr i := by
  cases i
  case adc | add | and | bic | eor | orr | rsb | rsc | sbc | sub | mvn | cmp | cmn | tst | teq =>
    all_goals
      refine decodeFields_op2Fields _ _ _ _ _ _ _ _ (by simp) ?_
      simp only [decodeDataProcessing, operand2_op2Fields, b24_op2Fields, b23_op2Fields, b22_op2Fields, b21_op2Fields,
        b20_op2Fields, rn_op2Fields, rd_op2Fields]
      exact leaf_of_existsIn rfl he
  case mov =>
    refine decodeFields_op2Fields _ _ _ _ _ _ _ _ (by simp) ?_
    simp only [decodeDataProcessing, operand2_op2Fields, b24_op2Fields, b23_op2Fields, b22_op2Fields, b21_op2Fields,
      b20_op2Fields, rn_op2Fields, rd_op2Fields]
    exact (if_neg (not_eq_true_of_not hw)).trans (leaf_of_existsIn rfl he)
  case cpy =>
    obtain rfl : a = .v6 := eq_of_beq he
    have hplain : (((0 : BitVec 4) ++ BitVec.ofBool false) == (0 : BitVec 5)) = true := by decide
    exact decodeFields_rows000 rfl rfl rfl rfl ((if_pos hplain).trans (leaf_of_existsIn rfl he))
  case ldr c ix up rn rd off | ldrb c ix up rn rd off | str c ix up rn rd off | strb c ix up rn rd off =>
    all_goals
      refine decodeFields_mode2Fields _ _ _ _ _ _ _ _ ?_
      simp only [decodeWordByte, offset2_mode2Fields, b24_mode2Fields, b23_mode2Fields, b22_mode2Fields,
        b21_mode2Fields, b20_mode2Fields, rn_mode2Fields, rd_mode2Fields]
      cases ix <;> exact leaf_of_existsIn rfl he
  case ldrt | ldrbt | strt | strbt =>
    all_goals
      refine decodeFields_mode2Fields _ _ _ _ _ _ _ _ ?_
      simp only [decodeWordByte, offset2_mode2Fields, b24_mode2Fields, b23_mode2Fields, b22_mode2Fields,
        b21_mode2Fields, b20_mode2Fields, rn_mode2Fields, rd_mode2Fields]
      exact leaf_of_existsIn rfl he
  case pld up rn off =>
    rw [decodeFields_unconditional (by cases off <;> rfl)]
    have hpld : decodeUnconditional a (mode2Fields 15 true up true false true rn 15 off) =
        leaf a true (.pld up rn (mode2Fields 15 true up true false true rn 15 off).offset2) := by
      cases off <;> rfl
    rw [encodeFields, hpld, offset2_mode2Fields]
    exact leaf_of_existsIn rfl he
  case ldrd | strd | ldrh | strh | ldrsb | ldrsh =>
    all_goals
      refine decodeFields_mode3Fields _ _ _ _ _ _ _ _ rfl ?_
      simp only [decodeExtra, offset3_mode3Fields, offset3Fixed_mode3Fields, b24_mode3Fields, b23_mode3Fields,
        b21_mode3Fields, b20_mode3Fields, b6_mode3Fields, b5_mode3Fields, rn_mode3Fields, rd_mode3Fields,
        Index3.ofBits_bits]
      exact leaf_of_existsIn rfl he
  case ldm1 | stm1 | ldm2 | ldm3 | stm2 =>
    all_goals
      refine decodeFields_listFields _ _ _ _ _ _ ?_
      simp only [decodeMultiple, imm16_listFields, extractLsb'_fifteen, getLsbD_fifteen]
      simp only [listFields, Mode4.ofBits_bits]
      exact leaf_of_existsIn rfl he
  case ldc | stc =>
    all_goals
      refine decodeFields_mode5Fields _ _ _ _ _ _ _ ?_
      simp only [decodeCoprocessor, imm8_mode5Fields]
      simp only [mode5Fields, Mode5.ofBits_bits]
      exact leaf_of_existsIn rfl he
  case ldc2 | stc2 =>
    all_goals
      rw [decodeFields_unconditional rfl]
      change decodeCoprocessor a none (mode5Fields _ _ _ _ _ _ _ _) = _
      simp only [decodeCoprocessor, imm8_mode5Fields]
      simp only [mode5Fields, Mode5.ofBits_bits]
      exact leaf_of_existsIn rfl he
  case b =>
    exact (decodeFields_conditional rfl).trans (leaf_of_eq rfl (congrArg (Instr.b _) (imm24_imm24Fields ..)) he)
  case bl =>
    exact (decodeFields_conditional rfl).trans (leaf_of_eq rfl (congrArg (Instr.bl _) (imm24_imm24Fields ..)) he)
  case swi =>
    exact (decodeFields_conditional rfl).trans (leaf_of_eq rfl (congrArg (Instr.swi _) (imm24_imm24Fields ..)) he)
  case blx1 =>
    exact (decodeFields_unconditional rfl).trans (leaf_of_eq rfl (congrArg (Instr.blx1 _) (imm24_imm24Fields ..)) he)
  case mul | mla | umaal | umull | umlal | smull | smlal | swp | swpb | strex | ldrex | smlaxy | smlawy | smulwy |
    smulxy | smlalxy | mrs | msrReg | bx | bxj | blx2 | clz | qadd | qsub | qdadd | qdsub =>
    all_goals exact decodeFields_rows000 rfl rfl rfl rfl (leaf_of_existsIn rfl he)
  case sadd16 | saddsubx | ssubaddx | ssub16 | sadd8 | ssub8 | qadd16 | qaddsubx | qsubaddx | qsub16 | qadd8 | qsub8 |
      shadd16 | shaddsubx | shsubaddx | shsub16 | shadd8 | shsub8 | uadd16 | uaddsubx | usubaddx | usub16 | uadd8 |
      usub8 | uqadd16 | uqaddsubx | uqsubaddx | uqsub16 | uqadd8 | uqsub8 | uhadd16 | uhaddsubx | uhsubaddx | uhsub16 |
      uhadd8 | uhsub8 | sel | ssat16 | usat16 | rev | rev16 | revsh | smmls | smlald | smlsld | smuad | smusd | smmul |
      usad8 =>
    all_goals exact (decodeFields_conditional rfl).trans (leaf_of_existsIn rfl he)
  case smlad | smlsd | smmla | usada8 =>
    all_goals
      exact (decodeFields_conditional rfl).trans ((if_neg (not_eq_true_of_not hw)).trans (leaf_of_existsIn rfl he))
  case msrImm =>
    exact (decodeFields_conditional rfl).trans
      (leaf_of_eq rfl (congrArg (Instr.msrImm _ _ _ _) (nib_append_nibble _)) he)
  case cdp | mcr | mrc | mcrr | mrrc =>
    all_goals
      refine (decodeFields_conditional rfl).trans ?_
      simp only [decodeConditional, encodeFields, decodeCoprocessor, low4, nib_bits, three_bits]
      exact leaf_of_existsIn rfl he
  case cdp2 | mcr2 | mrc2 | mcrr2 | mrrc2 =>
    all_goals
      refine (decodeFields_unconditional rfl).trans ?_
      simp only [decodeUnconditional, encodeFields, decodeCoprocessor, low4, nib_bits, three_bits]
      exact leaf_of_existsIn rfl he
  case bkpt =>
    refine decodeFields_rows000 (c := .al) rfl rfl rfl rfl ?_
    exact leaf_of_eq rfl (congrArg Instr.bkpt (nibbles_append_nibbles _)) he
  case sxtab | sxtab16 | sxtah | uxtab | uxtab16 | uxtah =>
    all_goals
      exact (decodeFields_conditional rfl).trans ((if_neg (not_eq_true_of_not hw)).trans
        (leaf_of_eq (extractLsb'_zero_nib ..) (by simp only [encodeFields, extractLsb'_two_nib]) he))
  case sxtb | sxtb16 | sxth | uxtb | uxtb16 | uxth =>
    all_goals
      exact (decodeFields_conditional rfl).trans
        (leaf_of_eq (extractLsb'_zero_nib ..) (by simp only [encodeFields, extractLsb'_two_nib]) he)
  case cps imod mmod ab ib f mode =>
    refine (decodeFields_unconditional rfl).trans ?_
    simp only [decodeUnconditional, encodeFields, decodeCpsSetend, getLsbD_nib]
    exact leaf_of_eq (by cases ab <;> rfl)
      (by simpa [modeNumber] using ⟨extractLsb'_two_nib imod mmod false, bit_append_low4 mode⟩) he
  case setend e =>
    cases e <;> exact (decodeFields_unconditional rfl).trans (leaf_of_existsIn rfl he)
  case rfe =>
    exact (decodeFields_unconditional rfl).trans
      (leaf_of_eq (by simp only [encodeFields, low4]; decide) (congrArg (Instr.rfe · _ _) (Mode4.ofBits_bits _)) he)
  case srs =>
    exact (decodeFields_unconditional rfl).trans
      (leaf_of_eq rfl (congrArg₂ (Instr.srs · _ ·) (Mode4.ofBits_bits _) (bit_append_low4 _)) he)
  case ssat =>
    exact (decodeFields_conditional rfl).trans
      (leaf_of_eq rfl (congrArg₂ (Instr.ssat _ · _ · _ _) (bit_append_low4 _) (hi4_append_bit _)) he)
  case usat =>
    exact (decodeFields_conditional rfl).trans
      (leaf_of_eq rfl (congrArg₂ (Instr.usat _ · _ · _ _) (bit_append_low4 _) (hi4_append_bit _)) he)
  case pkhbt =>
    exact (decodeFields_conditional rfl).trans
      (leaf_of_eq rfl (congrArg (Instr.pkhbt _ _ _ · _) (hi4_append_bit _)) he)
  case pkhtb =>
    exact (decodeFields_conditional rfl).trans
      (leaf_of_eq rfl (congrArg (Instr.pkhtb _ _ _ · _) (hi4_append_bit _)) he)
/-- Settles O1: the word of an instruction is cut into its fields, and each row reads its operands back from them. -/
theorem decodeEncode : Obligations.DecodeEncode := by
  unfold Obligations.DecodeEncode
  intro a i hw he
  rw [decode_encode]
  exact decodeFields_encodeFields hw he

end Sys2Proof
end

section
/-! A word that decodes is the word of its instruction (O2): one lemma per space of the opcode map. -/

namespace Sys2Proof

open Fields

/-- Whatever instruction the decoder answers for the fields `f`, it is the instruction of those fields. -/
def Reads (a : Arch) (f : Fields) (d : Decoded) : Prop :=
  ∀ i, d = .instr i → encodeFields i = f ∧ i.WellFormed a = true ∧ i.existsIn a = true

variable {a : Arch} {c : Cond} {f : Fields} {i : Instr}

theorem leaf_eq_instr {fixed : Bool} {j : Instr} (h : leaf a fixed i = .instr j) :
    i = j ∧ fixed = true ∧ i.existsIn a = true := by
  unfold leaf at h
  split at h
  case h_1 he => exact ⟨Decoded.instr.inj h, rfl, he⟩
  all_goals exact Decoded.noConfusion h

theorem reads_leaf {fixed : Bool} (h : fixed = true → encodeFields i = f ∧ i.WellFormed a = true) :
    Reads a f (leaf a fixed i) := by
  intro j hj
  obtain ⟨rfl, hfix, he⟩ := leaf_eq_instr hj
  exact ⟨(h hfix).1, (h hfix).2, he⟩

/-- A row without fixed bits of its own. -/
theorem reads_row (h : encodeFields i = f) (hw : i.WellFormed a = true) : Reads a f (leaf a true i) :=
  reads_leaf fun _ => ⟨h, hw⟩

theorem reads_reject (r : Reject) : Reads a f (.reject r) := fun _ h => Decoded.noConfusion h

theorem reads_undefinedPattern : Reads a f (.undefinedPattern c) := fun _ h => Decoded.noConfusion h

theorem reads_ite {p : Bool} {d e : Decoded} (hd : p = true → Reads a f d) (he : p = false → Reads a f e) :
    Reads a f (if p then d else e) := by
  cases p
  · exact he rfl
  · exact hd rfl

/-! ### Bit vectors joined from fields give the fields back -/

section

variable {w : Nat} (x : BitVec w) (y : BitVec 4) (b7 b6 b5 b4 : Bool)

theorem nibble_append_zero : nibble (x ++ y) 0 = y := by
  apply BitVec.eq_of_getLsbD_eq
  intro k hk
  simp [nibble, BitVec.getLsbD_append, hk]

theorem nibble_append_succ (n : Nat) : nibble (x ++ y) (n + 1) = nibble x n := by
  apply BitVec.eq_of_getLsbD_eq
  intro k hk
  have h4 : ¬ 4 * (n + 1) + k < 4 := by omega
  have hsub : 4 * (n + 1) + k - 4 = 4 * n + k := by omega
  simp [nibble, BitVec.getLsbD_append, hk, h4, hsub]

theorem nibble_self : nibble y 0 = y := by
  apply BitVec.eq_of_getLsbD_eq
  intro k hk
  simp [nibble, hk]

end

/-- The low byte of a bit vector that ends in bits 7:0 of a word. -/
theorem low8_append {w : Nat} (x : BitVec w) (f : Fields) :
    (x ++ f.low4 ++ f.rm).getLsbD 7 = f.b7 ∧ (x ++ f.low4 ++ f.rm).getLsbD 6 = f.b6 ∧
      (x ++ f.low4 ++ f.rm).getLsbD 5 = f.b5 ∧ (x ++ f.low4 ++ f.rm).getLsbD 4 = f.b4 := by
  simp only [BitVec.getLsbD_append, low4, getLsbD_nib]
  simp

theorem low8_imm8 (f : Fields) :
    f.imm8.getLsbD 7 = f.b7 ∧ f.imm8.getLsbD 6 = f.b6 ∧ f.imm8.getLsbD 5 = f.b5 ∧ f.imm8.getLsbD 4 = f.b4 := by
  simp only [imm8, BitVec.getLsbD_append, low4, getLsbD_nib]
  simp

theorem low8_imm12 (f : Fields) :
    f.imm12.getLsbD 7 = f.b7 ∧ f.imm12.getLsbD 6 = f.b6 ∧ f.imm12.getLsbD 5 = f.b5 ∧ f.imm12.getLsbD 4 = f.b4 :=
  low8_append f.rs f

theorem low8_imm16 (f : Fields) :
    f.imm16.getLsbD 7 = f.b7 ∧ f.imm16.getLsbD 6 = f.b6 ∧ f.imm16.getLsbD 5 = f.b5 ∧ f.imm16.getLsbD 4 = f.b4 :=
  low8_append (f.rd ++ f.rs) f

theorem low8_imm24 (f : Fields) :
    f.imm24.getLsbD 7 = f.b7 ∧ f.imm24.getLsbD 6 = f.b6 ∧ f.imm24.getLsbD 5 = f.b5 ∧ f.imm24.getLsbD 4 = f.b4 :=
  low8_append (nib f.b23 f.b22 f.b21 f.b20 ++ f.rn ++ f.rd ++ f.rs) f

theorem hi4_append (x : BitVec 4) : ∀ b, hi4 (x ++ BitVec.ofBool b) = x := by
  revert x; decide

theorem getLsbD_append_bit (x : BitVec 4) : ∀ b, (x ++ BitVec.ofBool b).getLsbD 0 = b := by
  revert x; decide

theorem getLsbD_bit_append (x : BitVec 4) : ∀ b, (BitVec.ofBool b ++ x).getLsbD 4 = b := by
  revert x; decide

theorem extractLsb'_bit_append (x : BitVec 4) : ∀ b, (BitVec.ofBool b ++ x).extractLsb' 0 4 = x := by
  revert x; decide

theorem nib_of_rotFixed {x : BitVec 4} (h : (x.extractLsb' 0 2 == 0) = true) :
    nib ((x.extractLsb' 2 2).getLsbD 1) ((x.extractLsb' 2 2).getLsbD 0) false false = x := by
  revert x; decide

theorem op2Fields_operand2 (h27 : f.b27 = false) (h26 : f.b26 = false)
    (h74 : f.b25 = false → f.b4 = true → f.b7 = false) :
    op2Fields f.cond f.b24 f.b23 f.b22 f.b21 f.b20 f.rn f.rd f.operand2 = f := by
  obtain ⟨h7, h6, h5, h4⟩ := low8_imm8 f
  have hrm : nibble f.imm8 0 = f.rm := nibble_append_zero ..
  cases f with
  | mk cond b27 b26 b25 b24 b23 b22 b21 b20 rn rd rs b7 b6 b5 b4 rm =>
    subst h27 h26
    cases b25 with
    | true => simp only [operand2, op2Fields, h7, h6, h5, h4, hrm]
    | false =>
      cases b4 with
      | false =>
        simp only [operand2, op2Fields, amount, hi4_append, getLsbD_append_bit, ShiftType.b6_ofBits,
          ShiftType.b5_ofBits]
      | true =>
        obtain rfl : b7 = false := h74 rfl rfl
        simp only [operand2, op2Fields, ShiftType.b6_ofBits, ShiftType.b5_ofBits]

theorem mode2Fields_offset2 (h27 : f.b27 = false) (h26 : f.b26 = true) (h4 : f.b25 = true → f.b4 = false) :
    mode2Fields f.cond f.b24 f.b23 f.b22 f.b21 f.b20 f.rn f.rd f.offset2 = f := by
  obtain ⟨g7, g6, g5, g4⟩ := low8_imm12 f
  have hrs : nibble f.imm12 2 = f.rs := by simp only [imm12, nibble_append_succ, nibble_self]
  have hrm : nibble f.imm12 0 = f.rm := nibble_append_zero ..
  cases f with
  | mk cond b27 b26 b25 b24 b23 b22 b21 b20 rn rd rs b7 b6 b5 b4 rm =>
    subst h27 h26
    cases b25 with
    | false => simp only [offset2, mode2Fields, g7, g6, g5, g4, hrm, hrs]
    | true =>
      obtain rfl : b4 = false := h4 rfl
      simp only [offset2, mode2Fields, amount, hi4_append, getLsbD_append_bit, ShiftType.b6_ofBits, ShiftType.b5_ofBits]

theorem Index3.p_ofBits (p w : Bool) : (Index3.ofBits p w).p = p := by cases p <;> cases w <;> rfl

theorem Index3.w_ofBits (p w : Bool) : (Index3.ofBits p w).w = w := by cases p <;> cases w <;> rfl

theorem Mode4.p_ofBits (p u : Bool) : (Mode4.ofBits p u).p = p := by cases p <;> cases u <;> rfl

theorem Mode4.u_ofBits (p u : Bool) : (Mode4.ofBits p u).u = u := by cases p <;> cases u <;> rfl

theorem Mode5.bits_of_ofBits {p u w : Bool} {am : Mode5} (h : Mode5.ofBits p u w = some am) :
    am.p = p ∧ am.u = u ∧ am.w = w := by
  cases p <;> cases u <;> cases w <;> cases h <;> exact ⟨rfl, rfl, rfl⟩

theorem mode3Fields_offset3 (h27 : f.b27 = false) (h26 : f.b26 = false) (h25 : f.b25 = false) (h7 : f.b7 = true)
    (h4 : f.b4 = true) (hfix : f.offset3Fixed = true) :
    mode3Fields f.cond (Index3.ofBits f.b24 f.b21) f.b23 f.b20 f.b6 f.b5 f.rn f.rd f.offset3 = f := by
  cases f with
  | mk cond b27 b26 b25 b24 b23 b22 b21 b20 rn rd rs b7 b6 b5 b4 rm =>
    subst h27 h26 h25 h7 h4
    cases b22 with
    | true =>
      simp only [offset3, mode3Fields, Index3.p_ofBits, Index3.w_ofBits, nibble_append_succ, nibble_append_zero,
        nibble_self]
    | false =>
      obtain rfl : rs = 0 := eq_of_beq hfix
      simp only [offset3, mode3Fields, Index3.p_ofBits, Index3.w_ofBits]

theorem listFields_imm16 (h27 : f.b27 = true) (h26 : f.b26 = false) (h25 : f.b25 = false) :
    listFields f.cond (Mode4.ofBits f.b24 f.b23) f.b22 f.b21 f.b20 f.rn f.imm16 = f := by
  obtain ⟨g7, g6, g5, g4⟩ := low8_imm16 f
  have hrd : nibble f.imm16 3 = f.rd := by simp only [imm16, nibble_append_succ, nibble_self]
  have hrs : nibble f.imm16 2 = f.rs := by simp only [imm16, nibble_append_succ, nibble_append_zero]
  have hrm : nibble f.imm16 0 = f.rm := nibble_append_zero ..
  cases f with
  | mk cond b27 b26 b25 b24 b23 b22 b21 b20 rn rd rs b7 b6 b5 b4 rm =>
    subst h27 h26 h25
    simp only [listFields, Mode4.p_ofBits, Mode4.u_ofBits, g7, g6, g5, g4, hrd, hrs, hrm]

theorem mode5Fields_imm8 {am : Mode5} (h27 : f.b27 = true) (h26 : f.b26 = true) (h25 : f.b25 = false)
    (ham : Mode5.ofBits f.b24 f.b23 f.b21 = some am) :
    mode5Fields f.cond am f.b22 f.b20 f.rn f.rd f.rs f.imm8 = f := by
  obtain ⟨g7, g6, g5, g4⟩ := low8_imm8 f
  have hrm : nibble f.imm8 0 = f.rm := nibble_append_zero ..
  obtain ⟨hp, hu, hw⟩ := Mode5.bits_of_ofBits ham
  cases f with
  | mk cond b27 b26 b25 b24 b23 b22 b21 b20 rn rd rs b7 b6 b5 b4 rm =>
    subst h27 h26 h25
    simp only [mode5Fields, hp, hu, hw, g7, g6, g5, g4, hrm]

theorem imm24Fields_imm24 : imm24Fields f.cond f.b27 f.b26 f.b25 f.b24 f.imm24 = f := by
  obtain ⟨g7, g6, g5, g4⟩ := low8_imm24 f
  have hrn : nibble f.imm24 4 = f.rn := by simp only [imm24, nibble_append_succ, nibble_append_zero]
  have hrd : nibble f.imm24 3 = f.rd := by simp only [imm24, nibble_append_succ, nibble_append_zero]
  have hrs : nibble f.imm24 2 = f.rs := by simp only [imm24, nibble_append_succ, nibble_append_zero]
  have hrm : nibble f.imm24 0 = f.rm := nibble_append_zero ..
  have htop : f.imm24.getLsbD 23 = f.b23 ∧ f.imm24.getLsbD 22 = f.b22 ∧ f.imm24.getLsbD 21 = f.b21 ∧
      f.imm24.getLsbD 20 = f.b20 := by
    simp only [imm24, BitVec.getLsbD_append, getLsbD_nib]
    simp
  obtain ⟨g23, g22, g21, g20⟩ := htop
  simp only [imm24Fields, g23, g22, g21, g20, g7, g6, g5, g4, hrn, hrd, hrs, hrm]

/-! ### The rows of each space -/

theorem Operand2.eq_of_isPlainRegister {op : Operand2} (h : op.isPlainRegister = true) :
    ∃ rm, op = .shiftImm 0 .lsl rm := by
  unfold Operand2.isPlainRegister at h
  split at h
  case h_1 amount rm => exact ⟨rm, congrArg (Operand2.shiftImm · .lsl rm) (eq_of_beq h)⟩
  · exact absurd h Bool.false_ne_true

theorem reads_dataProcessing (hc : c.code = f.cond)
    (hop : op2Fields f.cond f.b24 f.b23 f.b22 f.b21 f.b20 f.rn f.rd f.operand2 = f)
    (hs : (f.b24 && !f.b23 && !f.b20) = false) : Reads a f (decodeDataProcessing a c f) := by
  rw [← hc] at hop
  unfold decodeDataProcessing
  split
  case h_14 h24 h23 h22 h21 =>
    rw [h24, h23, h22, h21] at hop
    refine reads_ite (fun hcpy => ?_) (fun hmov => ?_)
    · simp only [Bool.and_eq_true, Bool.not_eq_true'] at hcpy
      obtain ⟨⟨-, h20⟩, hplain⟩ := hcpy
      obtain ⟨rm, hrm⟩ := Operand2.eq_of_isPlainRegister hplain
      rw [hrm, h20] at hop
      obtain rfl : rm = f.rm := congrArg Fields.rm hop
      exact reads_leaf fun hz => ⟨by rwa [eq_of_beq hz] at hop, rfl⟩
    · refine reads_leaf fun hz => ⟨by rwa [eq_of_beq hz] at hop, ?_⟩
      rw [Instr.WellFormed, hmov, Bool.not_false]
  case h_9 | h_10 | h_11 | h_12 =>
    all_goals
      rename_i h24 h23 h22 h21
      have h20 : f.b20 = true := by simpa [h24, h23] using hs
      rw [h24, h23, h22, h21, h20] at hop
      exact reads_leaf fun hz => ⟨by rwa [eq_of_beq hz] at hop, rfl⟩
  case h_16 h24 h23 h22 h21 =>
    rw [h24, h23, h22, h21] at hop
    exact reads_leaf fun hz => ⟨by rwa [eq_of_beq hz] at hop, rfl⟩
  all_goals
    rename_i h24 h23 h22 h21
    rw [h24, h23, h22, h21] at hop
    exact reads_row hop rfl

theorem reads_wordByte (hc : c.code = f.cond)
    (hop : mode2Fields f.cond f.b24 f.b23 f.b22 f.b21 f.b20 f.rn f.rd f.offset2 = f) :
    Reads a f (decodeWordByte a c f) := by
  rw [← hc] at hop
  unfold decodeWordByte
  split
  all_goals
    rename_i h24 h21 h22 h20
    rw [h24, h22, h21, h20] at hop
    exact reads_row hop rfl

theorem reads_extra (hc : c.code = f.cond) (hop : f.offset3Fixed = true →
      mode3Fields f.cond (Index3.ofBits f.b24 f.b21) f.b23 f.b20 f.b6 f.b5 f.rn f.rd f.offset3 = f) :
    Reads a f (decodeExtra a c f) := by
  rw [← hc] at hop
  unfold decodeExtra
  simp only
  split
  case h_7 => exact reads_reject _
  all_goals
    rename_i h20 h6 h5
    rw [h20, h6, h5] at hop
    exact reads_leaf fun hz => ⟨hop hz, rfl⟩

section

variable (b27 b26 b25 b24 b23 b22 b21 b20 b7 b6 b5 b4 : Bool) (rn rd rs rm : BitVec 4)

theorem reads_multiply (hf : f = ⟨c.code, false, false, false, false, b23, b22, b21, b20, rn, rd, rs,
    true, false, false, true, rm⟩) : Reads a f (decodeMultiply a c f) := by
  subst hf
  cases b23 <;> cases b22 <;> cases b21
  case false.false.false => exact reads_leaf fun hz => by simp_all [encodeFields, Instr.WellFormed]
  case false.true.false =>
    cases b20 with
    | false => exact reads_row rfl rfl
    | true => exact reads_reject _
  case false.true.true => exact reads_reject _
  all_goals
    simp only [decodeMultiply]
    exact reads_row rfl rfl

theorem reads_sync (hf : f = ⟨c.code, false, false, false, true, b23, b22, b21, b20, rn, rd, rs,
    true, false, false, true, rm⟩) : Reads a f (decodeSync a c f) := by
  subst hf
  cases b23 <;> cases b22 <;> cases b21 <;> cases b20
  case false.false.false.false | false.true.false.false | true.false.false.false | true.false.false.true =>
    all_goals exact reads_leaf fun hz => by simp_all [encodeFields, Instr.WellFormed]
  all_goals exact reads_reject _

theorem reads_dspMultiply (hf : f = ⟨c.code, false, false, false, true, false, b22, b21, false, rn, rd, rs,
    true, b6, b5, false, rm⟩) : Reads a f (decodeDspMultiply a c f) := by
  subst hf
  cases b22 <;> cases b21
  case false.true =>
    cases b5 with
    | false => exact reads_row rfl rfl
    | true => exact reads_leaf fun hz => by simp_all [encodeFields, Instr.WellFormed]
  case true.true => exact reads_leaf fun hz => by simp_all [encodeFields, Instr.WellFormed]
  all_goals exact reads_row rfl rfl

theorem reads_misc (hf : f = ⟨c.code, false, false, false, true, false, b22, b21, false, rn, rd, rs,
    b7, b6, b5, b4, rm⟩) (h74 : (b7 && b4) = false) : Reads a f (decodeMisc a c f) := by
  cases b7 with
  | true =>
    obtain rfl : b4 = false := h74
    rw [decodeMisc, hf]
    exact reads_dspMultiply _ _ _ _ _ _ _ _ rfl
  | false =>
    subst hf
    simp only [decodeMisc, Bool.false_eq_true, if_false]
    split
    case h_11 =>
      refine reads_ite (fun hal => ?_) (fun _ => reads_reject _)
      obtain rfl : c = .al := eq_of_beq hal
      refine reads_row ?_ rfl
      simp only [encodeFields, nibble_append_succ, nibble_append_zero, nibble_self]
      rfl
    case h_12 => exact reads_reject _
    all_goals exact reads_leaf fun hz => by simp_all [encodeFields, Instr.WellFormed]

theorem reads_rows000 (hf : f = ⟨c.code, false, false, false, b24, b23, b22, b21, b20, rn, rd, rs,
    b7, b6, b5, b4, rm⟩) : Reads a f (decodeRows000 a c f) := by
  unfold decodeRows000
  split
  case h_1 h74 h65 =>
    refine reads_extra (by rw [hf]) fun hfix => ?_
    rw [hf, Bool.and_eq_true] at h74
    obtain ⟨h7, h4⟩ := h74
    exact mode3Fields_offset3 (by rw [hf]) (by rw [hf]) (by rw [hf]) (by rw [hf, h7]) (by rw [hf, h4]) hfix
  case h_2 h74 h65 h24 =>
    subst hf
    simp only [Bool.and_eq_true, Bool.or_eq_false_iff] at h74 h65
    obtain ⟨⟨rfl, rfl⟩, rfl, rfl⟩ := And.intro h74 h65
    obtain rfl : b24 = false := h24
    exact reads_multiply _ _ _ _ _ _ _ _ rfl
  case h_3 h74 h65 h24 =>
    subst hf
    simp only [Bool.and_eq_true, Bool.or_eq_false_iff] at h74 h65
    obtain ⟨⟨rfl, rfl⟩, rfl, rfl⟩ := And.intro h74 h65
    obtain rfl : b24 = true := h24
    exact reads_sync _ _ _ _ _ _ _ _ rfl
  case h_4 h74 =>
    refine reads_ite (fun hm => ?_) fun hd => ?_
    · subst hf
      simp only [Bool.and_eq_true, Bool.not_eq_true'] at hm
      obtain ⟨⟨rfl, rfl⟩, rfl⟩ := hm
      exact reads_misc _ _ _ _ _ _ _ _ _ _ rfl h74
    · refine reads_dataProcessing (by rw [hf]) (op2Fields_operand2 (by rw [hf]) (by rw [hf]) ?_) hd
      subst hf
      rintro - h4
      simpa [show b4 = true from h4] using h74

theorem reads_000 (hf : f = ⟨c.code, false, false, false, b24, b23, b22, b21, b20, rn, rd, rs,
    b7, b6, b5, b4, rm⟩) : Reads a f (decode000 a c f) := by
  have hrows := reads_rows000 (a := a) _ _ _ _ _ _ _ _ _ _ _ _ _ hf
  unfold decode000
  split
  · exact reads_reject _
  · exact hrows

theorem reads_001 (hf : f = ⟨c.code, false, false, true, b24, b23, b22, b21, b20, rn, rd, rs,
    b7, b6, b5, b4, rm⟩) : Reads a f (decode001 a c f) := by
  unfold decode001
  refine reads_ite (fun hm => ?_) fun hd => ?_
  · obtain ⟨g7, g6, g5, g4⟩ := low8_imm8 f
    have hrm : nibble f.imm8 0 = f.rm := nibble_append_zero ..
    subst hf
    simp only [Bool.and_eq_true, Bool.not_eq_true'] at hm
    obtain ⟨⟨rfl, rfl⟩, rfl⟩ := hm
    refine reads_ite (fun h21 => reads_leaf fun hz => ?_) fun _ => reads_reject _
    obtain rfl : b21 = true := h21
    obtain rfl : rd = 15 := eq_of_beq hz
    exact ⟨by simp only [encodeFields, g7, g6, g5, g4, hrm], rfl⟩
  · exact reads_dataProcessing (by rw [hf])
      (op2Fields_operand2 (by rw [hf]) (by rw [hf]) fun h25 => by rw [hf] at h25; exact absurd h25 Bool.noConfusion) hd

theorem reads_packSatExtend (hf : f = ⟨c.code, false, true, true, false, true, b22, b21, b20, rn, rd, rs,
    b7, b6, b5, true, rm⟩) : Reads a f (decodePackSatExtend a c f) := by
  subst hf
  simp only [decodePackSatExtend]
  split
  case h_16 => exact reads_reject _
  case h_1 | h_2 => all_goals exact reads_row (by simp only [encodeFields, hi4_append, getLsbD_append_bit]) rfl
  case h_3 =>
    refine reads_ite (fun hu => ?_) fun hu => ?_
    all_goals
      subst hu
      refine reads_row ?_ rfl
      simp only [encodeFields, satImm, amount, hi4_append, getLsbD_append_bit, getLsbD_bit_append,
        extractLsb'_bit_append]
  case h_10 | h_11 | h_12 | h_13 | h_14 | h_15 =>
    all_goals
      refine reads_ite (fun h15 => reads_leaf fun hz => ?_) fun hn => reads_leaf fun hz => ?_
      · obtain rfl : rn = 15 := eq_of_beq h15
        exact ⟨by simp only [encodeFields, nib_of_rotFixed hz], rfl⟩
      · exact ⟨by simp only [encodeFields, nib_of_rotFixed hz], by rw [Instr.WellFormed, bne, hn, Bool.not_false]⟩
  all_goals exact reads_leaf fun hz => by simp_all [encodeFields, Instr.WellFormed]

theorem reads_mediaMultiply (hf : f = ⟨c.code, false, true, true, true, false, b22, b21, b20, rn, rd, rs,
    b7, b6, b5, true, rm⟩) : Reads a f (decodeMediaMultiply a c f) := by
  subst hf
  simp only [decodeMediaMultiply]
  split
  case h_7 => exact reads_reject _
  case h_3 | h_4 | h_6 => all_goals exact reads_row rfl rfl
  all_goals
    refine reads_ite (fun h15 => ?_) fun hn => ?_
    · obtain rfl : rd = 15 := eq_of_beq h15
      exact reads_row rfl rfl
    · exact reads_row rfl (by rw [Instr.WellFormed, bne, hn, Bool.not_false])

theorem reads_usad (hf : f = ⟨c.code, false, true, true, true, true, b22, b21, b20, rn, rd, rs,
    b7, b6, b5, true, rm⟩) : Reads a f (decodeUsad a c f) := by
  subst hf
  simp only [decodeUsad]
  split
  case h_1 =>
    refine reads_ite (fun h15 => ?_) fun hn => ?_
    · obtain rfl : rd = 15 := eq_of_beq h15
      exact reads_row rfl rfl
    · exact reads_row rfl (by rw [Instr.WellFormed, bne, hn, Bool.not_false])
  case h_2 => exact reads_undefinedPattern
  case h_3 => exact reads_reject _

theorem encodeFields_of_parallelRow (h : parallelRow c rn rd rm b22 b21 b20 b7 b6 b5 b4 = some i) :
    encodeFields i = ⟨c.code, false, true, true, false, false, b22, b21, b20, rn, rd, 15, b7, b6, b5, b4, rm⟩ ∧
      i.WellFormed a = true := by
  unfold parallelRow at h
  split at h
  case h_37 => cases h
  all_goals
    cases h
    exact ⟨rfl, rfl⟩

theorem reads_media (hf : f = ⟨c.code, false, true, true, b24, b23, b22, b21, b20, rn, rd, rs,
    b7, b6, b5, true, rm⟩) : Reads a f (decodeMedia a c f) := by
  subst hf
  simp only [decodeMedia]
  split
  · split
    case h_1 j hrow =>
      refine reads_leaf fun hz => ?_
      obtain rfl : rs = 15 := eq_of_beq hz
      exact encodeFields_of_parallelRow _ _ _ _ _ _ _ _ _ _ hrow
    case h_2 => exact reads_reject _
  · exact reads_packSatExtend _ _ _ _ _ _ _ _ _ _ rfl
  · exact reads_mediaMultiply _ _ _ _ _ _ _ _ _ _ rfl
  · exact reads_usad _ _ _ _ _ _ _ _ _ _ rfl

theorem ofBool_append_extract (x : BitVec 16) : BitVec.ofBool (x.getLsbD 15) ++ x.extractLsb' 0 15 = x := by
  apply BitVec.eq_of_getLsbD_eq
  intro k hk
  rw [BitVec.getLsbD_append, BitVec.getLsbD_extractLsb']
  split
  case isTrue h => simp [h]
  case isFalse h =>
    obtain rfl : k = 15 := by omega
    simp

theorem reads_multiple (hc : c.code = f.cond)
    (hop : listFields f.cond (Mode4.ofBits f.b24 f.b23) f.b22 f.b21 f.b20 f.rn f.imm16 = f) :
    Reads a f (decodeMultiple a c f) := by
  rw [← hc] at hop
  have hlist := ofBool_append_extract f.imm16
  simp only [decodeMultiple]
  split
  case h_1 h22 h20 | h_2 h22 h20 =>
    all_goals
      rw [h22, h20] at hop
      exact reads_row hop rfl
  case h_3 h22 h20 =>
    rw [h22, h20] at hop
    refine reads_ite (fun h15 => ?_) fun h15 => reads_ite (fun _ => reads_reject _) fun h21 => ?_
    · rw [h15] at hlist
      exact reads_row (by rw [encodeFields, hlist, hop]) rfl
    · rw [h15] at hlist
      rw [h21] at hop
      exact reads_row (by rw [encodeFields, hlist, hop]) rfl
  case h_4 h22 h20 =>
    refine reads_ite (fun _ => reads_reject _) fun h21 => ?_
    rw [h22, h20, h21] at hop
    exact reads_row hop rfl

theorem getLsbD_three (x y z : Bool) : (BitVec.ofBool x ++ BitVec.ofBool y ++ BitVec.ofBool z).getLsbD 2 = x ∧
    (BitVec.ofBool x ++ BitVec.ofBool y ++ BitVec.ofBool z).getLsbD 1 = y ∧
    (BitVec.ofBool x ++ BitVec.ofBool y ++ BitVec.ofBool z).getLsbD 0 = z := by
  revert x y z; decide

theorem Mode5.ofBits_eq_none {p u w : Bool} (h : Mode5.ofBits p u w = none) : p = false ∧ u = false ∧ w = false := by
  cases p <;> cases u <;> cases w <;> cases h
  exact ⟨rfl, rfl, rfl⟩

theorem reads_coprocessorTransfer (k : Option Cond) (hf : f = ⟨k.elim 15 Cond.code, true, true, false, b24, b23, b22,
    b21, b20, rn, rd, rs, b7, b6, b5, b4, rm⟩) : Reads a f (decodeCoprocessor a k f) := by
  subst hf
  simp only [decodeCoprocessor]
  split
  case h_1 am ham =>
    have hop := mode5Fields_imm8 (f := ⟨k.elim 15 Cond.code, true, true, false, b24, b23, b22,
      b21, b20, rn, rd, rs, b7, b6, b5, b4, rm⟩) rfl rfl rfl ham
    split
    all_goals exact reads_row hop rfl
  case h_2 ham =>
    obtain ⟨rfl, rfl, rfl⟩ := Mode5.ofBits_eq_none ham
    refine reads_ite (fun h22 => ?_) fun _ => reads_reject _
    obtain rfl : b22 = true := h22
    split
    all_goals
      refine reads_row ?_ rfl
      simp only [encodeFields, low4, getLsbD_nib]
      simp

theorem reads_coprocessorRegister (k : Option Cond) (hf : f = ⟨k.elim 15 Cond.code, true, true, true, false, b23, b22,
    b21, b20, rn, rd, rs, b7, b6, b5, b4, rm⟩) : Reads a f (decodeCoprocessor a k f) := by
  subst hf
  simp only [decodeCoprocessor]
  split
  case h_1 | h_2 =>
    all_goals
      refine reads_row ?_ rfl
      simp only [encodeFields, getLsbD_nib, getLsbD_three]
      simp
  all_goals exact reads_row (by simp only [encodeFields, getLsbD_three]; rfl) rfl

theorem reads_conditional (hf : f = ⟨c.code, b27, b26, b25, b24, b23, b22, b21, b20, rn, rd, rs,
    b7, b6, b5, b4, rm⟩) : Reads a f (decodeConditional a c f) := by
  have himm := imm24Fields_imm24 (f := f)
  subst hf
  cases b27 <;> cases b26 <;> cases b25
  case false.false.false => exact reads_000 _ _ _ _ _ _ _ _ _ _ _ _ _ rfl
  case false.false.true => exact reads_001 _ _ _ _ _ _ _ _ _ _ _ _ _ rfl
  case false.true.false =>
    exact reads_wordByte rfl (mode2Fields_offset2 rfl rfl fun h => absurd h Bool.false_ne_true)
  case false.true.true =>
    refine reads_ite (fun h4 => ?_) fun h4 => reads_wordByte rfl (mode2Fields_offset2 rfl rfl fun _ => h4)
    obtain rfl : b4 = true := h4
    exact reads_media _ _ _ _ _ _ _ _ _ _ _ _ rfl
  case true.false.false => exact reads_multiple rfl (listFields_imm16 rfl rfl rfl)
  case true.false.true =>
    refine reads_ite (fun h24 => ?_) fun h24 => ?_
    all_goals
      obtain rfl := (h24 : b24 = _)
      exact reads_row himm rfl
  case true.true.false => exact reads_coprocessorTransfer _ _ _ _ _ _ _ _ _ _ _ _ _ (some c) rfl
  case true.true.true =>
    refine reads_ite (fun h24 => ?_) fun h24 => ?_
    all_goals obtain rfl := (h24 : b24 = _)
    · exact reads_row himm rfl
    · exact reads_coprocessorRegister _ _ _ _ _ _ _ _ _ _ _ _ (some c) rfl

theorem modeNumber_bits (f : Fields) : f.modeNumber.getLsbD 4 = f.b4 ∧ f.modeNumber.extractLsb' 0 4 = f.rm :=
  ⟨getLsbD_bit_append .., extractLsb'_bit_append ..⟩

theorem nib_of_cps {x : BitVec 4} (h : x.getLsbD 0 = false) :
    nib ((x.extractLsb' 2 2).getLsbD 1) ((x.extractLsb' 2 2).getLsbD 0) (x.getLsbD 1) false = x := by
  revert x; decide

theorem nib_of_high_zero {x : BitVec 4} (h : (x.extractLsb' 1 3 == 0) = true) :
    nib false false false (x.getLsbD 0) = x := by
  revert x; decide

theorem nib_of_setend {x : BitVec 4} (h : (x.extractLsb' 2 2 == 0) = true) (h0 : x.getLsbD 0 = false) :
    nib false false (x.getLsbD 1) false = x := by
  revert x; decide

theorem bits_of_nib_zero {b7 b6 b5 b4 : Bool} (h : (nib b7 b6 b5 b4 == 0) = true) :
    b7 = false ∧ b6 = false ∧ b5 = false ∧ b4 = false := by
  revert b7 b6 b5 b4; decide

theorem reads_cpsSetend (hf : f = ⟨15, false, false, false, true, false, false, false, false, rn, rd, rs,
    b7, b6, b5, b4, rm⟩) : Reads a f (decodeCpsSetend a f) := by
  obtain ⟨hm4, hm0⟩ := modeNumber_bits f
  subst hf
  simp only [decodeCpsSetend]
  split
  case h_1 h0 =>
    refine reads_leaf fun hz => ?_
    obtain ⟨hrd, hrs⟩ := Bool.and_eq_true_iff.mp hz
    obtain rfl : rd = 0 := eq_of_beq hrd
    exact ⟨by simp only [encodeFields, nib_of_cps h0, nib_of_high_zero hrs, hm4, hm0], rfl⟩
  case h_2 =>
    refine reads_ite (fun h1 => reads_leaf fun hz => ?_) fun _ => reads_reject _
    obtain ⟨hrn, hlow⟩ := Bool.and_eq_true_iff.mp h1
    obtain ⟨rfl, rfl, rfl, rfl⟩ := bits_of_nib_zero hlow
    simp only [Bool.and_eq_true, Bool.not_eq_true'] at hz
    obtain ⟨⟨⟨hrd, hrs⟩, hrs0⟩, hrm⟩ := hz
    obtain ⟨rfl, rfl, rfl⟩ := And.intro (eq_of_beq hrn) (And.intro (eq_of_beq hrd) (eq_of_beq hrm))
    exact ⟨by simp only [encodeFields, nib_of_setend hrs hrs0], rfl⟩
  case h_3 => exact reads_reject _

theorem reads_returnStore (hf : f = ⟨15, true, false, false, b24, b23, b22, b21, b20, rn, rd, rs,
    b7, b6, b5, b4, rm⟩) : Reads a f (decodeUnconditional a f) := by
  obtain ⟨hm4, hm0⟩ := modeNumber_bits f
  subst hf
  cases b22 <;> cases b20
  case false.true =>
    refine reads_ite (fun hrs => reads_leaf fun hz => ?_) fun _ => reads_reject _
    simp only [Bool.and_eq_true] at hz
    obtain ⟨⟨hrd, hlow⟩, hrm⟩ := hz
    obtain ⟨rfl, rfl, rfl, rfl⟩ := bits_of_nib_zero hlow
    obtain ⟨rfl, rfl, rfl⟩ := And.intro (eq_of_beq hrs) (And.intro (eq_of_beq hrd) (eq_of_beq hrm))
    exact ⟨by simp only [encodeFields, Mode4.p_ofBits, Mode4.u_ofBits], rfl⟩
  case true.false =>
    refine reads_ite (fun h => reads_leaf fun hz => ?_) fun _ => reads_reject _
    obtain ⟨hrn, hrs⟩ := Bool.and_eq_true_iff.mp h
    simp only [Bool.and_eq_true, Bool.not_eq_true'] at hz
    obtain ⟨⟨⟨hrd, rfl⟩, rfl⟩, rfl⟩ := hz
    obtain ⟨rfl, rfl, rfl⟩ := And.intro (eq_of_beq hrn) (And.intro (eq_of_beq hrs) (eq_of_beq hrd))
    exact ⟨by simp only [encodeFields, Mode4.p_ofBits, Mode4.u_ofBits, hm4, hm0], rfl⟩
  all_goals exact reads_reject _

theorem reads_unconditional (hf : f = ⟨15, b27, b26, b25, b24, b23, b22, b21, b20, rn, rd, rs,
    b7, b6, b5, b4, rm⟩) : Reads a f (decodeUnconditional a f) := by
  have himm := imm24Fields_imm24 (f := f)
  subst hf
  cases b27 <;> cases b26
  case false.false =>
    cases b25 with
    | false =>
      refine reads_ite (fun h => ?_) fun _ => reads_reject _
      simp only [Bool.and_eq_true, Bool.not_eq_true'] at h
      obtain ⟨⟨⟨⟨rfl, rfl⟩, rfl⟩, rfl⟩, rfl⟩ := h
      exact reads_cpsSetend _ _ _ _ _ _ _ _ rfl
    | true => exact reads_reject _
  case false.true =>
    refine reads_ite (fun h => ?_) fun _ => reads_reject _
    simp only [Bool.and_eq_true, Bool.not_eq_true', Bool.and_eq_false_iff] at h
    obtain ⟨⟨⟨⟨⟨rfl, rfl⟩, rfl⟩, rfl⟩, hrd⟩, h4⟩ := h
    obtain rfl : rd = 15 := eq_of_beq hrd
    refine reads_row (mode2Fields_offset2 rfl rfl fun h25 => ?_) rfl
    exact h4.resolve_left fun h => absurd (h.symm.trans h25) Bool.false_ne_true
  case true.false =>
    cases b25 with
    | false => exact reads_returnStore _ _ _ _ _ _ _ _ _ _ _ _ _ rfl
    | true => exact reads_row himm rfl
  case true.true =>
    cases b25 with
    | false => exact reads_coprocessorTransfer _ _ _ _ _ _ _ _ _ _ _ _ _ none rfl
    | true =>
      refine reads_ite (fun _ => reads_reject _) fun h24 => ?_
      obtain rfl : b24 = false := h24
      exact reads_coprocessorRegister _ _ _ _ _ _ _ _ _ _ _ _ none rfl

end

theorem Cond.eq_of_ofCode_none {x : BitVec 4} (h : Cond.ofCode x = none) : x = 15 := by
  revert x; decide

theorem reads_decodeFields (a : Arch) (f : Fields) : Reads a f (decodeFields a f) := by
  unfold decodeFields
  split
  case h_1 c hc => exact reads_conditional _ _ _ _ _ _ _ _ _ _ _ _ _ _ _ _ (by rw [Cond.code_of_ofCode hc])
  case h_2 hc => exact reads_unconditional _ _ _ _ _ _ _ _ _ _ _ _ _ _ _ _ (by rw [← Cond.eq_of_ofCode_none hc])

theorem cond_encodeFields (i : Instr) :
    (encodeFields i).cond = if Machine.unconditional i then 15 else (Machine.instrCond i).code := by
  cases i
  case adc op | add op | and op | bic op | eor op | orr op | rsb op | rsc op | sbc op | sub op | mvn op | mov op |
    cmp op | cmn op | tst op | teq op => all_goals cases op <;> rfl
  case ldr off | ldrb off | str off | strb off | ldrt off | ldrbt off | strt off | strbt off | pld off =>
    all_goals cases off <;> rfl
  case ldrd off | strd off | ldrh off | strh off | ldrsb off | ldrsh off => all_goals cases off <;> rfl
  all_goals rfl

/-- Settles O2: every row of the decoder answers the instruction whose fields it was given. -/
theorem encodeDecode : Obligations.EncodeDecode := by
  unfold Obligations.EncodeDecode
  intro a w i h
  obtain ⟨hf, hw, he⟩ := reads_decodeFields a (splitWord w) i h
  refine ⟨(encode_eq_iff i w).mpr hf, hw, he, ?_⟩
  rw [← cond_encodeFields, hf]
  rfl

end Sys2Proof
end

section
/-! Exception entry (O15 to O17), the state after reset (O7, O8), and the invariant of a step (O5, O6). -/

namespace Sys2Proof.Machine

variable {s t u : State} {e : Exception} {i : Instr}

theorem getLsbD_withField {w n : Nat} (x : BitVec w) (lo k : Nat) (v : BitVec n) (hk : k < w) :
    (withField x lo v).getLsbD k = if lo ≤ k ∧ k < lo + n then v.getLsbD (k - lo) else x.getLsbD k := by
  have hsub : lo ≤ k → (k - lo < n ↔ k < lo + n) := fun h => by omega
  simp only [withField, BitVec.getLsbD_or, BitVec.getLsbD_and, BitVec.getLsbD_not, BitVec.getLsbD_shiftLeft,
    BitVec.getLsbD_setWidth, BitVec.getLsbD_allOnes, hk, decide_true, Bool.true_and]
  by_cases h : lo ≤ k
  · have hw : k - lo < w := by omega
    by_cases hn : k < lo + n
    · have hlt : ¬ k < lo := by omega
      simp [h, hn, hw, hsub h, hlt]
    · have hv : v.getLsbD (k - lo) = false := BitVec.getLsbD_of_ge _ _ (by omega)
      simp [h, hn, hw, hsub h, hv]
  · simp [h, show k < lo by omega]

/-! ### Exception entry -/

theorem entryCpsr_eq (p : Params) (e : Exception) (x : Word) :
    entryCpsr p e x = psrEntry x (if p.arch == .v6 then p.cp15EE else x.getLsbD 9)
      (x.getLsbD 8 || (p.arch == .v6 && e != .undefinedInstruction && e != .softwareInterrupt))
      (x.getLsbD 6 || e == .fiq) e.mode.code := by
  have hf : e.masksF = (e == .fiq) := by cases e <;> rfl
  have ha : e.masksA = (e != .undefinedInstruction && e != .softwareInterrupt) := by cases e <;> rfl
  rw [Bool.and_assoc, ← ha, ← hf]
  unfold entryCpsr psrEntry
  generalize e.mode.code = m
  generalize (p.arch == .v6) = v
  apply BitVec.eq_of_getLsbD_eq
  intro k hk
  cases v <;> cases e.masksF <;> cases e.masksA <;>
    simp only [getLsbD_withBit, getLsbD_withField _ _ _ _ hk, BitVec.getLsbD_append, Bool.false_eq_true, if_true,
      if_false] <;>
    interval_cases k <;> simp

theorem psrMode_psrEntry (x : Word) (e a f : Bool) (mode : BitVec 5) : psrMode (psrEntry x e a f mode) = mode := by
  unfold psrMode psrEntry
  apply BitVec.eq_of_getLsbD_eq
  intro k hk
  simp only [BitVec.getLsbD_extractLsb', BitVec.getLsbD_append]
  interval_cases k <;> simp

/-- Settles O15: each part of the state is read off the entry's definition, the CPSR by `entryCpsr_eq`. -/
theorem exceptionEntry : Obligations.ExceptionEntry := by
  unfold Obligations.ExceptionEntry
  intro e s p
  have hlink : e.linkOffset = if e = .dataAbort then 8 else 4 := by cases e <;> rfl
  have hspsr : ∀ m, (enterException e s).spsr.get m = if e.mode = m then some s.cpsr else s.spsr.get m := by
    intro m
    rw [show (enterException e s).spsr = s.spsr.set e.mode s.cpsr from rfl, SpsrFile.get_set]
    have hhas : e.mode.hasSpsr = true := by cases e <;> rfl
    simp only [hhas, and_true]
  refine ⟨?_, ?_, fun hp => ?_, ?_, fun m hm => ?_, entryCpsr_eq s.params e s.cpsr, rfl, rfl, rfl, rfl, rfl, rfl, rfl,
    rfl, rfl, rfl, rfl, rfl⟩
  · rw [vectorAddress, BitVec.add_comm, BitVec.add_sub_cancel]
    cases e <;> rfl
  · exact (RegFile.get_set ..).trans (by rw [if_pos rfl, hlink])
  · exact (RegFile.get_set ..).trans (if_neg (Ne.symm hp))
  · rw [hspsr, if_pos rfl]
  · rw [hspsr, if_neg (Ne.symm hm)]

theorem takeException_of_entryOpen (h : s.entryOpen) : takeException e s = .next (enterException e s) :=
  (takeException_next e s _).mpr ⟨h.1, h.2, rfl⟩

theorem enterException_eq {x pc : Word} (hx : entryCpsr s.params e s.cpsr = x) (hpc : vectorAddress s.params e = pc) :
    enterException e s = { s with
      regs := s.regs.set e.link (s.pc + e.linkOffset)
      spsr := s.spsr.set e.mode s.cpsr
      cpsr := x
      pc := pc } := by
  subst hx hpc
  rfl

/-- Settles O16. -/
theorem swiTaken : Obligations.SwiTaken := by
  unfold Obligations.SwiTaken
  intro c imm s hc hopen
  have hcpsr : entryCpsr s.params .softwareInterrupt s.cpsr =
      psrEntry s.cpsr (if s.isV6 then s.params.cp15EE else s.bitE) s.bitA s.bitF 0b10011 := by
    rw [entryCpsr_eq]
    change psrEntry _ _ (s.bitA || (s.isV6 && true && false)) (s.bitF || false) _ = _
    rw [Bool.and_false, Bool.or_false, Bool.or_false]
    rfl
  have hpc : vectorAddress s.params .softwareInterrupt = if s.params.hivecs then 0xFFFF0008 else 0x00000008 := by
    unfold vectorAddress
    cases s.params.hivecs <;> rfl
  calc exec (.swi c imm) s
    _ = takeException .softwareInterrupt s := if_pos hc
    _ = .next (enterException .softwareInterrupt s) := takeException_of_entryOpen hopen
    _ = _ := congrArg _ (enterException_eq hcpsr hpc)

/-- Settles O17. -/
theorem bkptTaken : Obligations.BkptTaken := by
  unfold Obligations.BkptTaken
  intro imm s
  refine ⟨fun hd => if_pos hd, fun hd hopen => ?_⟩
  have hcpsr : entryCpsr s.params .prefetchAbort s.cpsr =
      psrEntry s.cpsr (if s.isV6 then s.params.cp15EE else s.bitE) (s.bitA || s.isV6) s.bitF 0b10111 := by
    rw [entryCpsr_eq]
    change psrEntry _ _ (s.bitA || (s.isV6 && true && true)) (s.bitF || false) _ = _
    rw [Bool.and_true, Bool.and_true, Bool.or_false]
    rfl
  have hpc : vectorAddress s.params .prefetchAbort = if s.params.hivecs then 0xFFFF000C else 0x0000000C := by
    unfold vectorAddress
    cases s.params.hivecs <;> rfl
  calc exec (.bkpt imm) s
    _ = takeException .prefetchAbort s := if_neg (by simp [hd])
    _ = .next (enterException .prefetchAbort s) := takeException_of_entryOpen hopen
    _ = _ := congrArg _ (enterException_eq hcpsr hpc)

/-! ### Reset -/

theorem resetCpsr_cases (p : Params) :
    (p.arch = .v6 ∧ p.cp15EE = true ∧ resetCpsr p = 0x000003D3) ∨
    (p.arch = .v6 ∧ p.cp15EE = false ∧ resetCpsr p = 0x000001D3) ∨ (p.arch ≠ .v6 ∧ resetCpsr p = 0x000000D3) := by
  unfold resetCpsr
  split
  next ha =>
    split
    next he => exact .inl ⟨ha, he, rfl⟩
    next he => exact .inr (.inl ⟨ha, by simpa using he, rfl⟩)
  next ha => exact .inr (.inr ⟨ha, rfl⟩)

/-- Settles O8: the state after reset is given by its definition; its CPSR is one of three words. -/
theorem resetValues : Obligations.ResetValues := by
  unfold Obligations.ResetValues
  refine ⟨rfl, fun p => ?_⟩
  have hbits : psrMode (resetCpsr p) = 0b10011 ∧ (resetCpsr p).getLsbD 7 = true ∧ (resetCpsr p).getLsbD 6 = true ∧
      (resetCpsr p).getLsbD 5 = false ∧ (resetCpsr p).getLsbD 24 = false ∧
      (p.arch = .v6 → (resetCpsr p).getLsbD 8 = true ∧ (resetCpsr p).getLsbD 9 = p.cp15EE) := by
    rcases resetCpsr_cases p with ⟨-, he, hx⟩ | ⟨-, he, hx⟩ | ⟨ha, hx⟩
    · exact hx ▸ ⟨rfl, rfl, rfl, rfl, rfl, fun _ => ⟨rfl, he.symm⟩⟩
    · exact hx ▸ ⟨rfl, rfl, rfl, rfl, rfl, fun _ => ⟨rfl, he.symm⟩⟩
    · exact hx ▸ ⟨rfl, rfl, rfl, rfl, rfl, fun h => absurd h ha⟩
  obtain ⟨hm, hI, hF, hT, hJ, h6⟩ := hbits
  exact ⟨hm, hI, hF, hT, hJ, h6, rfl, rfl, rfl, rfl, rfl, rfl, rfl, rfl, rfl,
    fun k => Vector.getElem_replicate ..⟩

/-- Settles O7: no list of the state after reset has an entry, and its PSRs are closed words. -/
theorem resetWellFormed : Obligations.ResetWellFormed := by
  unfold Obligations.ResetWellFormed
  intro p
  have hspsr : ∀ a m x, SpsrFile.reset.get m = some x →
      x &&& (psrMasks a).unalloc = 0 ∧ (Mode.ofCode (psrMode x)).isSome = true := by
    intro a m x h
    cases m <;> cases h <;> cases a <;> decide
  refine ⟨?_, ⟨?_, hspsr p.arch⟩, ⟨rfl, rfl⟩, ?_, ?_, fun _ _ => ?_, ?_, fun _ => rfl⟩
  · change (Mode.ofCode (psrMode (resetCpsr p))).isSome = true
    rcases resetCpsr_cases p with ⟨-, -, hx⟩ | ⟨-, -, hx⟩ | ⟨-, hx⟩ <;> rw [hx] <;> rfl
  · change resetCpsr p &&& (psrMasks p.arch).unalloc = 0
    rcases resetCpsr_cases p with ⟨ha, -, hx⟩ | ⟨ha, -, hx⟩ | ⟨-, hx⟩
    · rw [hx, ha]; rfl
    · rw [hx, ha]; rfl
    · rw [hx]
      cases p.arch <;> rfl
  · exact fun a h => absurd h List.not_mem_nil
  · exact Nat.zero_le 1
  · change (resetVector p).extractLsb' 0 2 = 0
    unfold resetVector
    cases p.hivecs <;> rfl
  · exact fun h => BankHazard.noConfusion h

/-! ### Decoding and the masks -/

/-- Settles O3. -/
theorem decodesSpecWords : Obligations.DecodesSpecWords := by
  unfold Obligations.DecodesSpecWords
  decide

/-- Settles O4. -/
theorem psrMasksPartition : Obligations.PsrMasksPartition := by
  unfold Obligations.PsrMasksPartition
  refine ⟨rfl, rfl, rfl, rfl, rfl, rfl, rfl, fun a => ?_⟩
  cases a <;> decide

/-! ### One step -/

theorem State.wake_eq (s : State) : s.wake = { s with bankHazard := s.wake.bankHazard } := by
  unfold State.wake
  split <;> rfl

/-- Settles O5: past the checks of the boundary the step runs what it fetches, which is the word's instruction. -/
theorem stepRunsDecoded : Obligations.StepRunsDecoded := by
  unfold Obligations.StepRunsDecoded
  intro s hs hi harm hn w hw i hd hh
  have hrun : stepAwake s.wake = exec i s.wake := by
    rw [State.wake_eq] at hh ⊢
    generalize s.wake.bankHazard = b at hh ⊢
    have hf : fetch { s with bankHazard := b } = .decoded (.instr i) := by
      rw [fetch_of_fetchedWord (s := { s with bankHazard := b }) hw hn, ← hd]
      rfl
    rw [stepAwake_of_inArm (s := { s with bankHazard := b }) hs hi harm]
    unfold runFetched
    rw [hf]
    exact if_neg (by rw [hh]; exact Bool.false_ne_true)
  unfold step
  rw [hrun]
  cases exec i s.wake <;> rfl

/-- The invariant but for the hazard, which is live while an instruction runs. -/
structure State.Kept (s : State) : Prop where
  mode : s.legalMode
  psrs : s.legalPsrs
  memory : s.canonical
  written : s.writtenHeld
  ownMark : s.ownMarkUnique
  pc : s.pcAligned
  hazardV6 : s.isV6 = true → s.bankHazard = .none

/-- The parameters and the input lines of two states agree. -/
def State.sameInputs (s t : State) : Prop :=
  t.params = s.params ∧ t.irqLine = s.irqLine ∧ t.fiqLine = s.fiqLine ∧ t.abortLine = s.abortLine

theorem State.WellFormed.kept_wake (h : s.WellFormed) : s.wake.Kept := by
  have hb : s.isV6 = true → s.wake.bankHazard = .none := fun h6 => by
    rw [State.wake_of_none (h.hazard.2 h6), h.hazard.2 h6]
  rw [State.wake_eq]
  exact ⟨h.mode, h.psrs, h.memory, h.written, h.ownMark, h.pc, hb⟩

theorem State.Kept.wellFormed_settle (h : u.Kept) : u.settle.WellFormed := by
  unfold State.settle
  split
  next =>
    exact ⟨h.mode, h.psrs, h.memory, h.written, h.ownMark, h.pc, fun hl => BankHazard.noConfusion hl, fun _ => rfl⟩
  next hl => exact ⟨h.mode, h.psrs, h.memory, h.written, h.ownMark, h.pc, hl, h.hazardV6⟩

theorem vectorAddress_aligned (p : Params) (e : Exception) : (vectorAddress p e).extractLsb' 0 2 = 0 := by
  unfold vectorAddress
  cases p.hivecs <;> cases e <;> rfl

theorem and_eq_zero_iff_getLsbD {x m : Word} : x &&& m = 0 ↔ ∀ j < 32, (x.getLsbD j && m.getLsbD j) = false := by
  have zero : ∀ j, (0 : Word).getLsbD j = false := fun _ => BitVec.getLsbD_zero
  refine ⟨fun h j _ => ?_, fun h => BitVec.eq_of_getLsbD_eq fun j hj => ?_⟩
  · rw [← BitVec.getLsbD_and, h, zero]
  · rw [BitVec.getLsbD_and, h j hj, zero]

theorem withBit_and_eq_zero {x m : Word} {k : Nat} {b : Bool} (h : x &&& m = 0) (hk : b = true → m.getLsbD k = false) :
    withBit x k b &&& m = 0 := by
  rw [and_eq_zero_iff_getLsbD] at h ⊢
  intro j hj
  rw [getLsbD_withBit]
  split
  next hkj =>
    subst hkj
    cases b with
    | false => rw [Bool.and_false, Bool.false_and]
    | true => rw [hk rfl, Bool.and_false]
  next => exact h j hj

theorem withField_mode_and_eq_zero {x m : Word} (v : BitVec 5) (h : x &&& m = 0) (hm : m &&& 0x1F = 0) :
    withField x 0 v &&& m = 0 := by
  rw [and_eq_zero_iff_getLsbD] at h hm ⊢
  intro j hj
  rw [getLsbD_withField _ _ _ _ hj]
  split
  next hj5 =>
    have hone : (0x1F : Word).getLsbD j = true := by
      obtain ⟨-, hlt⟩ := hj5
      interval_cases j <;> rfl
    have hmj := hm j hj
    rw [hone, Bool.and_true] at hmj
    rw [hmj, Bool.and_false]
  next => exact h j hj

/-- The bits entry sets are allocated, A and E only at ARMv6. -/
theorem entryCpsr_and_unalloc (p : Params) (e : Exception) {x : Word} (h : x &&& (psrMasks p.arch).unalloc = 0) :
    entryCpsr p e x &&& (psrMasks p.arch).unalloc = 0 := by
  have hmode : withField x 0 e.mode.code &&& (psrMasks p.arch).unalloc = 0 :=
    withField_mode_and_eq_zero _ h (by cases p.arch <;> rfl)
  have hTJI : withBit (withBit (withBit (withField x 0 e.mode.code) 5 false) 24 false)
      7 true &&& (psrMasks p.arch).unalloc = 0 :=
    withBit_and_eq_zero (withBit_and_eq_zero (withBit_and_eq_zero hmode nofun) nofun)
      fun _ => by cases p.arch <;> rfl
  unfold entryCpsr
  dsimp only
  generalize withBit (withBit (withBit (withField x 0 e.mode.code) 5 false) 24 false) 7 true = y at hTJI ⊢
  have hF : (if e.masksF then withBit y 6 true else y) &&& (psrMasks p.arch).unalloc = 0 := by
    split
    · exact withBit_and_eq_zero hTJI fun _ => by cases p.arch <;> rfl
    · exact hTJI
  generalize (if e.masksF then withBit y 6 true else y) = z at hF ⊢
  split
  next h6 =>
    rw [eq_of_beq h6] at hF ⊢
    refine withBit_and_eq_zero ?_ fun _ => rfl
    split
    · exact withBit_and_eq_zero hF fun _ => rfl
    · exact hF
  next => exact hF

theorem State.Kept.enterException (h : s.Kept) (e : Exception) : (enterException e s).Kept where
  mode := by
    change (Mode.ofCode (psrMode (entryCpsr s.params e s.cpsr))).isSome = true
    rw [entryCpsr_eq, psrMode_psrEntry]
    cases e <;> rfl
  psrs := by
    refine ⟨entryCpsr_and_unalloc _ _ h.psrs.1, fun m x hx => ?_⟩
    have hget := (SpsrFile.get_set s.spsr e.mode m s.cpsr).symm.trans hx
    split at hget
    · cases hget
      exact ⟨h.psrs.1, h.mode⟩
    · exact h.psrs.2 m x hget
  memory := h.memory
  written := h.written
  ownMark := h.ownMark
  pc _ _ := vectorAddress_aligned s.params e
  hazardV6 := h.hazardV6

theorem State.Kept.abortsFrom {a : State} (h : s.Kept) (ha : AbortsFrom i s a) : a.Kept ∧ s.sameInputs a := by
  rcases ha with rfl | ⟨c, rn, rd, -, rfl⟩
  · exact ⟨h, rfl, rfl, rfl, rfl⟩
  · have hown : (abortedLdrex s (s.readReg rn)).ownMarkUnique := by
      have hg := s.ownMarkUnique_markGlobal (s.readReg rn) h.ownMark
      unfold abortedLdrex
      dsimp only
      split <;> split <;> first | exact hg | exact h.ownMark
    rw [abortedLdrex_eq] at hown ⊢
    exact ⟨⟨h.mode, h.psrs, h.memory, h.written, hown, h.pc, h.hazardV6⟩, rfl, rfl, rfl, rfl⟩

theorem Ended.kept (he : Ended i s t) (hex : i.existsIn s.arch = true) (harm : s.inArm) (h : s.Kept) :
    t.Kept ∧ s.sameInputs t := by
  have hw := he.within
  refine ⟨⟨he.legalMode h.mode, he.legalPsrs hex h.psrs, hw.canonical h.memory, hw.writtenHeld h.written,
    hw.ownMark h.ownMark, he.pcAligned harm, fun h6 => ?_⟩, hw.params, hw.irqLine, hw.fiqLine, hw.abortLine⟩
  have h6' : s.isV6 = true := by
    rw [State.isV6, ← show t.params = s.params from hw.params]
    exact h6
  exact (hw.hazardV6 h6').trans (h.hazardV6 h6')

theorem StepsTo.kept (hst : StepsTo s u) (h : s.Kept) : u.Kept ∧ s.sameInputs u := by
  have taken : ∀ {a : State} {e : Exception}, a.Kept ∧ s.sameInputs a → takeException e a = .next u →
      u.Kept ∧ s.sameInputs u := by
    intro a e ⟨hk, hin⟩ ht
    obtain ⟨-, -, rfl⟩ := (takeException_next e a u).mp ht
    exact ⟨hk.enterException e, hin⟩
  cases hst with
  | taken e ht => exact taken ⟨h, rfl, rfl, rfl, rfl⟩ ht
  | passed harm hu =>
    subst hu
    exact ⟨⟨h.mode, h.psrs, h.memory, h.written, h.ownMark, fun _ _ => low_two_add_four harm.2.2, h.hazardV6⟩,
      rfl, rfl, rfl, rfl⟩
  | ran i harm hf hx =>
    obtain ⟨w, hw⟩ := decode_of_fetch hf
    obtain ⟨-, -, hex⟩ := reads_decodeFields s.arch (splitWord w) i hw
    rcases exec_meets i s u hx with hend | ⟨e, -, a, ha, ht⟩
    · exact hend.kept hex harm h
    · exact taken (h.abortsFrom ha) ht

/-- Settles O6: the invariant holds of the woken state, each way a step can go on keeps it, and settling restores the
clause on the hazard. -/
theorem stepKeepsWellFormed : Obligations.StepKeepsWellFormed := by
  unfold Obligations.StepKeepsWellFormed
  intro s h t ht
  obtain ⟨u, rfl, -, hst⟩ := stepsTo_of_step ht
  obtain ⟨hk, hp, hq, hf, ha⟩ := hst.kept h.kept_wake
  rw [State.wake_eq] at hp hq hf ha
  have hset : u.settle = { u with bankHazard := u.settle.bankHazard } := by
    unfold State.settle
    split <;> rfl
  refine ⟨hk.wellFormed_settle, ?_⟩
  rw [hset]
  exact ⟨hp, hq, hf, ha⟩

end Sys2Proof.Machine
end

section
/-! Data processing (O22 to O24): the arithmetic of R22 to R24 by the signs, and what each class leaves. -/

namespace Sys2Proof.Machine

/-! ### Flags as one PSR value -/

theorem withBit_self (x : Word) (k : Nat) : withBit x k (x.getLsbD k) = x := by
  apply BitVec.eq_of_getLsbD_eq
  intro j hj
  rw [getLsbD_withBit]
  split
  next h => rw [← h, decide_eq_true (by omega), Bool.true_and]
  next => rfl

theorem withBit_flags (x : Word) (n z c v : Bool) :
    withBit (withBit (withBit (withBit x 31 n) 30 z) 29 c) 28 v = psrFlags x n z c v := by
  apply BitVec.eq_of_getLsbD_eq
  intro k hk
  simp only [psrFlags, getLsbD_withBit, BitVec.getLsbD_append, BitVec.getLsbD_extractLsb']
  interval_cases k <;> simp

theorem withBit_logicFlags (x : Word) (n z c : Bool) :
    withBit (withBit (withBit x 31 n) 30 z) 29 c = psrFlags x n z c (x.getLsbD 28) := by
  rw [← withBit_flags]
  have hbit : (withBit (withBit (withBit x 31 n) 30 z) 29 c).getLsbD 28 = x.getLsbD 28 := by
    simp only [getLsbD_withBit, Nat.reduceEqDiff, if_false]
  rw [← hbit, withBit_self]

/-! ### The sums and differences of R202 -/

section
variable (x y : Word) (cin : Bool)

theorem aluAdd_value : (aluAdd x y cin).value = x + y + (if cin then 1 else 0) := by
  apply BitVec.eq_of_toNat_eq
  cases cin <;> simp [aluAdd]

theorem aluSub_value : (aluSub x y cin).value = x - y - (if cin then 0 else 1) := by
  apply BitVec.eq_of_toNat_eq
  have hx := x.isLt
  have hy := y.isLt
  cases cin <;> simp [aluSub, BitVec.toNat_ofInt, BitVec.toNat_sub] <;> omega

theorem aluSub_carry : (aluSub x y cin).carry = decide (y.toNat + (!cin).toNat ≤ x.toNat) := by
  unfold aluSub
  rw [decide_eq_decide]
  omega

theorem aluAdd_overflow :
    (aluAdd x y cin).overflow = (x.msb == y.msb && (aluAdd x y cin).value.msb != x.msb) := by
  have hx := x.isLt
  have hy := y.isLt
  rw [Bool.eq_iff_iff]
  simp only [aluAdd, overflows, signedDoesSat, BitVec.msb_eq_decide, BitVec.toInt_eq_toNat_cond, BitVec.toNat_ofNat,
    Bool.and_eq_true, Bool.or_eq_true, beq_iff_eq, bne_iff_ne, ne_eq, decide_eq_decide, decide_eq_true_eq]
  cases cin <;> simp only [Bool.toNat_true, Bool.toNat_false] <;> split_ifs <;> omega

theorem aluSub_overflow :
    (aluSub x y cin).overflow = (x.msb != y.msb && (aluSub x y cin).value.msb != x.msb) := by
  have hx := x.isLt
  have hy := y.isLt
  rw [Bool.eq_iff_iff]
  simp only [aluSub, overflows, signedDoesSat, BitVec.msb_eq_decide, BitVec.toInt_eq_toNat_cond, BitVec.toNat_ofInt,
    Bool.and_eq_true, Bool.or_eq_true, bne_iff_ne, ne_eq, decide_eq_decide, decide_eq_true_eq]
  cases cin <;> simp only [Bool.toNat_true, Bool.toNat_false, Bool.not_true, Bool.not_false] <;> split_ifs <;> omega

end

/-! ### What the classes leave in a general register -/

section
variable {c : Cond} {sf : Bool} {rn rd : Reg} {op : Operand2} {s t : State}

theorem setArithFlags_eq (t : State) (r : AluOut) :
    t.setArithFlags r = { t with cpsr := psrFlags t.cpsr r.value.msb (r.value == 0) r.carry r.overflow } := by
  rw [BitVec.msb_eq_getLsbD_last, ← withBit_flags]
  rfl

theorem setLogicFlags_eq (t : State) (v : Word) (carry : Bool) :
    t.setLogicFlags v carry = { t with cpsr := psrFlags t.cpsr v.msb (v == 0) carry t.flagV } := by
  rw [BitVec.msb_eq_getLsbD_last, State.flagV, ← withBit_logicFlags]
  rfl

/-- The end of an instruction that writes a general register and, with S, the CPSR. -/
theorem finish_writeAlu {v x : Word} {flags : State → State} (hpc : s.pc.toNat + 4 < 2 ^ 32) (hrd : rd ≠ 15)
    (hx : flags (s.writeReg rd v) = { s.writeReg rd v with cpsr := x }) :
    finish s (writeAlu s sf rd v flags) = .next (s.result rd v (if sf then x else s.cpsr)) := by
  rw [writeAlu, if_neg hrd]
  cases sf with
  | false =>
    rw [if_neg Bool.false_ne_true, if_neg Bool.false_ne_true]
    exact finish_ok (advance_writeReg hpc)
  | true =>
    rw [if_pos rfl, if_pos rfl, hx]
    exact finish_advance (State.writeReg_pc ..) hpc

theorem arithOp_result {f : Word → Word → Bool → AluOut} (hr : s.runs c) (hrd : rd ≠ 15)
    (hop : operand2Allowed [rd, rn] op = true) :
    let r := f (s.readReg rn) (shifterOperand s op).1 s.flagC
    arithOp c sf rn rd op s f = .next (s.result rd r.value
      (if sf then psrFlags s.cpsr r.value.msb (r.value == 0) r.carry r.overflow else s.cpsr)) := by
  rw [operand2Allowed_perm (List.Perm.swap rn rd []) op] at hop
  dsimp only
  rw [arithOp, finish_conditional_of_pass hr.1, require_bind hop]
  refine finish_writeAlu hr.2 hrd ?_
  rw [setArithFlags_eq, State.writeReg_cpsr]

theorem logicOp_result {sources : List Reg} {f : Word → Word} (hr : s.runs c) (hrd : rd ≠ 15)
    (hop : operand2Allowed (rd :: sources) op = true) :
    let v := f (shifterOperand s op).1
    logicOp c sf sources rd op s f = .next (s.result rd v
      (if sf then psrFlags s.cpsr v.msb (v == 0) (shifterOperand s op).2 s.flagV else s.cpsr)) := by
  dsimp only
  rw [logicOp, finish_conditional_of_pass hr.1, require_bind hop]
  obtain ⟨y, carry⟩ := shifterOperand s op
  refine finish_writeAlu hr.2 hrd ?_
  rw [setLogicFlags_eq, State.writeReg_cpsr, State.flagV, State.writeReg_cpsr]
  rfl

/-- How an opcode runs (R200): in the arithmetic class by a sum or difference with its carry and overflow, or in the
logical class by a function of the shifter operand. -/
inductive DpOp.Runs (k : DpOp) (c : Cond) (sf : Bool) (rn rd : Reg) (op : Operand2) (s : State) : Prop where
  | arith (f : Word → Word → Bool → AluOut) (hregs : k.regs rn rd = [rd, rn])
      (hx : exec (k.instr c sf rn rd op) s = arithOp c sf rn rd op s f)
      (hval : ∀ x y cin, (f x y cin).value = k.value x y cin)
      (hcarry : ∀ x y cin b, (f x y cin).carry = k.carry x y cin b)
      (hover : ∀ x y cin b, (f x y cin).overflow = k.overflow x y (k.value x y cin) b)
  | logic (f : Word → Word) (sources : List Reg) (hregs : k.regs rn rd = rd :: sources)
      (hx : exec (k.instr c sf rn rd op) s = logicOp c sf sources rd op s f)
      (hval : ∀ y cin, f y = k.value (s.readReg rn) y cin)
      (hcarry : ∀ x y cin b, k.carry x y cin b = b)
      (hover : ∀ x y r b, k.overflow x y r b = b)

theorem DpOp.runs (k : DpOp) (c : Cond) (sf : Bool) (rn rd : Reg) (op : Operand2) (s : State) :
    k.Runs c sf rn rd op s := by
  have keeps : ∀ (_ _ _ : Word) (b : Bool), b = b := fun _ _ _ _ => rfl
  have subBorrow : ∀ x y : Word, (aluSub x y true).carry = decide (y.toNat ≤ x.toNat) := fun x y =>
      aluSub_carry x y true
  have subValue : ∀ x y : Word, (aluSub x y true).value = x - y := fun x y =>
    (aluSub_value x y true).trans (BitVec.sub_zero _)
  have addValue : ∀ x y : Word, (aluAdd x y false).value = x + y := fun x y =>
    (aluAdd_value x y false).trans (BitVec.add_zero _)
  cases k
  case and => exact .logic (fun y => s.readReg rn &&& y) [rn] rfl rfl (fun _ _ => rfl) (fun _ _ _ _ => rfl) keeps
  case eor => exact .logic (fun y => s.readReg rn ^^^ y) [rn] rfl rfl (fun _ _ => rfl) (fun _ _ _ _ => rfl) keeps
  case orr => exact .logic (fun y => s.readReg rn ||| y) [rn] rfl rfl (fun _ _ => rfl) (fun _ _ _ _ => rfl) keeps
  case bic => exact .logic (fun y => s.readReg rn &&& ~~~ y) [rn] rfl rfl (fun _ _ => rfl) (fun _ _ _ _ => rfl) keeps
  case mov => exact .logic (fun y => y) [] rfl rfl (fun _ _ => rfl) (fun _ _ _ _ => rfl) keeps
  case mvn => exact .logic (fun y => ~~~ y) [] rfl rfl (fun _ _ => rfl) (fun _ _ _ _ => rfl) keeps
  case add =>
    refine .arith (fun x y _ => aluAdd x y false) rfl rfl (fun x y _ => addValue x y) (fun _ _ _ _ => rfl)
      fun x y cin _ => ?_
    rw [aluAdd_overflow, addValue]
    rfl
  case adc =>
    refine .arith (fun x y cin => aluAdd x y cin) rfl rfl aluAdd_value (fun _ _ _ _ => rfl) fun x y cin _ => ?_
    rw [aluAdd_overflow, aluAdd_value]
    rfl
  case sub =>
    refine .arith (fun x y _ => aluSub x y true) rfl rfl (fun x y _ => subValue x y) (fun x y _ _ => subBorrow x y)
      fun x y cin _ => ?_
    rw [aluSub_overflow, subValue]
    rfl
  case rsb =>
    refine .arith (fun x y _ => aluSub y x true) rfl rfl (fun x y _ => subValue y x) (fun x y _ _ => subBorrow y x)
      fun x y cin _ => ?_
    rw [aluSub_overflow, subValue]
    rfl
  case sbc =>
    refine .arith (fun x y cin => aluSub x y cin) rfl rfl aluSub_value (fun x y cin _ => aluSub_carry x y cin)
      fun x y cin _ => ?_
    rw [aluSub_overflow, aluSub_value]
    rfl
  case rsc =>
    refine .arith (fun x y cin => aluSub y x cin) rfl rfl (fun x y cin => aluSub_value y x cin)
      (fun x y cin _ => aluSub_carry y x cin) fun x y cin _ => ?_
    rw [aluSub_overflow, aluSub_value]
    rfl

theorem exec_dpOp_result (k : DpOp) (hr : s.runs c) (hrd : rd ≠ 15) (hop : operand2Allowed (k.regs rn rd) op = true) :
    let x := s.readReg rn
    let y := (shifterOperand s op).1
    let v := k.value x y s.flagC
    exec (k.instr c sf rn rd op) s = .next (s.result rd v
      (if sf then psrFlags s.cpsr v.msb (v == 0) (k.carry x y s.flagC (shifterOperand s op).2)
        (k.overflow x y v s.flagV)
       else s.cpsr)) := by
  dsimp only
  cases k.runs c sf rn rd op s with
  | arith f hregs hx hval hcarry hover =>
    rw [hx, arithOp_result hr hrd (hregs ▸ hop), hval, hcarry _ _ _ (shifterOperand s op).2, hover _ _ _ s.flagV]
  | logic f sources hregs hx hval hcarry hover =>
    rw [hx, logicOp_result hr hrd (hregs ▸ hop), hval _ s.flagC, hcarry, hover]

/-! ### CLZ -/

theorem length_filter_lt_range (m n : Nat) (h : m < n) :
    ((List.range n).filter (fun i => decide (m < i))).length = n - 1 - m := by
  induction n with
  | zero => omega
  | succ n ih =>
    rw [List.range_succ, List.filter_append, List.length_append]
    by_cases hm : m < n
    · rw [ih hm]
      simp [hm]
      omega
    · have hnone : (List.range n).filter (fun i => decide (m < i)) = [] := by
        simp only [List.filter_eq_nil_iff, List.mem_range, decide_eq_true_eq]
        omega
      simp [hm, hnone]
      omega

theorem leadingZeros_eq (x : Word) : leadingZeros x = if x = 0 then 32 else 31 - Nat.log2 x.toNat := by
  unfold leadingZeros
  split
  next h => subst h; decide
  next h =>
    have hne : x.toNat ≠ 0 := fun hz => h (BitVec.eq_of_toNat_eq hz)
    have hlog : Nat.log2 x.toNat < 32 := (Nat.log2_lt hne).mpr x.isLt
    have hbit : ∀ i, (x >>> i == 0) = decide (Nat.log2 x.toNat < i) := fun i => by
      rw [Bool.eq_iff_iff, beq_iff_eq, decide_eq_true_eq, Nat.log2_lt hne, ← BitVec.toNat_inj, BitVec.toNat_ushiftRight,
        Nat.shiftRight_eq_div_pow]
      exact Nat.div_eq_zero_iff_lt (Nat.two_pow_pos i)
    simp only [hbit]
    exact length_filter_lt_range _ 32 hlog

theorem exec_cpy_result {rm : Reg} (hr : s.runs c) (hrd : rd ≠ 15) :
    exec (.cpy c rd rm) s = .next (s.result rd (s.readReg rm) s.cpsr) :=
  (finish_conditional_of_pass hr.1).trans (finish_writeAlu (sf := false) hr.2 hrd rfl)

theorem exec_clz_result {rm : Reg} (hr : s.runs c) (hrd : rd ≠ 15) (hrm : rm ≠ 15) :
    exec (.clz c rd rm) s = .next (s.result rd
      (if s.readReg rm = 0 then 32 else BitVec.ofNat 32 (31 - Nat.log2 (s.readReg rm).toNat)) s.cpsr) := by
  refine (finish_conditional_of_pass hr.1).trans (finish_ok ?_)
  rw [require_bind (Bool.and_eq_true_iff.mpr ⟨bne_iff_ne.mpr hrd, bne_iff_ne.mpr hrm⟩), leadingZeros_eq,
    apply_ite (BitVec.ofNat 32)]
  exact advance_writeReg hr.2

/-- Settles O22: the twelve by their class, and the sums and differences by `aluAdd` and `aluSub`. -/
theorem dataProcessingResults : Obligations.DataProcessingResults := by
  unfold Obligations.DataProcessingResults
  intro k c sf rn rd op s hr hrd hop x y v
  exact ⟨exec_dpOp_result k hr hrd hop, fun rm => ⟨exec_cpy_result hr hrd, exec_clz_result hr hrd⟩⟩

/-! ### The tests -/

theorem arithTest_result {f : Word → Word → AluOut} {v : Word} {z carry overflow : Bool} (hr : s.runs c)
    (hop : operand2Allowed [rn] op = true) (hv : (f (s.readReg rn) (shifterOperand s op).1).value = v)
    (hz : (v == 0) = z) (hcarry : (f (s.readReg rn) (shifterOperand s op).1).carry = carry)
    (hover : (f (s.readReg rn) (shifterOperand s op).1).overflow = overflow) :
    arithTest c rn op s f = .next { s with cpsr := psrFlags s.cpsr v.msb z carry overflow, pc := s.pc + 4 } := by
  rw [arithTest, finish_conditional_of_pass hr.1, require_bind hop, setArithFlags_eq, hv, hz, hcarry, hover]
  exact finish_advance rfl hr.2

theorem logicTest_result {f : Word → Word → Word} {z : Bool} (hr : s.runs c) (hop : operand2Allowed [rn] op = true)
    (hz : (f (s.readReg rn) (shifterOperand s op).1 == 0) = z) :
    logicTest c rn op s f = .next { s with
      cpsr := psrFlags s.cpsr (f (s.readReg rn) (shifterOperand s op).1).msb z (shifterOperand s op).2 s.flagV
      pc := s.pc + 4 } := by
  subst hz
  rw [logicTest, finish_conditional_of_pass hr.1, require_bind hop]
  obtain ⟨y, carry⟩ := shifterOperand s op
  dsimp only
  rw [setLogicFlags_eq]
  exact finish_advance rfl hr.2

theorem beq_zero_of_iff {x y d : Word} (h : d = 0 ↔ x = y) : (d == 0) = (x == y) := by
  rw [Bool.eq_iff_iff, beq_iff_eq, beq_iff_eq, h]

/-- Settles O24: CMP and CMN by `aluSub` and `aluAdd`; a difference or an exclusive or is 0 exactly for equal words. -/
theorem testResults : Obligations.TestResults := by
  unfold Obligations.TestResults
  intro c rn op s hr hop x y carry
  have hsub : (aluSub x y true).value = x - y := (aluSub_value x y true).trans (BitVec.sub_zero _)
  have hadd : (aluAdd x y false).value = x + y := (aluAdd_value x y false).trans (BitVec.add_zero _)
  have hborrow : (aluSub x y true).carry = decide (y.toNat ≤ x.toNat) := aluSub_carry x y true
  have hsubV := aluSub_overflow x y true
  have haddV := aluAdd_overflow x y false
  rw [hsub] at hsubV
  rw [hadd] at haddV
  exact ⟨arithTest_result (f := fun x y => aluSub x y true) hr hop hsub (beq_zero_of_iff sub_eq_zero) hborrow hsubV,
    arithTest_result (f := fun x y => aluAdd x y false) hr hop hadd rfl rfl haddV,
    logicTest_result (f := fun x y => x &&& y) hr hop rfl,
    logicTest_result (f := fun x y => x ^^^ y) hr hop (beq_zero_of_iff BitVec.xor_eq_zero_iff)⟩

/-! ### R15 as the destination -/

theorem writeAlu_pc {sf : Bool} {v : Word} {flags : State → State} :
    writeAlu s sf 15 v flags = writeAluPc s sf v := if_pos rfl

theorem finish_branchArm {v : Word} (h : v.extractLsb' 0 2 = 0) : finish s (branchArm s v) = .next { s with pc := v } :=
  finish_ok ((branchArm_ok s _ v).mpr ⟨h, rfl⟩)

theorem stopsAs_branchArm {v : Word} (h : v.extractLsb' 0 2 ≠ 0) : stopsAs (finish s (branchArm s v)) .misalignedPc :=
  stopsAs_finish (if_neg h)

theorem writeAluPc_of_no_spsr {v : Word} (h : s.spsr.get s.mode = none) :
    stopsAs (finish s (writeAluPc s true v)) .noSpsr :=
  stopsAs_finish (Exec.bind_of_error (currentSpsr_of_none h))

/-- The exception return of R590 (a): the SPSR becomes the CPSR, and the pc takes the result in the state it names. -/
theorem writeAluPc_of_spsr {v x : Word} (hx : s.spsr.get s.mode = some x) (hu : x &&& (psrMasks s.arch).unalloc = 0)
    (hm : (Mode.ofCode (psrMode x)).isSome = true)
    (hv : if x.getLsbD 5 then v.getLsbD 0 = false else x.getLsbD 24 = false → v.extractLsb' 0 2 = 0) :
    finish s (writeAluPc s true v) = .next { s with cpsr := x, pc := v } := by
  have hret : returnCpsr s x = .ok (s.setCpsr x) := (returnCpsr_ok s _ x).mpr ⟨hu, hm, rfl⟩
  refine finish_ok ?_
  change (currentSpsr s >>= fun x => _) = _
  rw [Exec.bind_of_ok ((currentSpsr_ok s x).mpr hx), Exec.bind_of_ok hret]
  change (if (x.getLsbD 5 && v.getLsbD 0) = true then _ else if (x.getLsbD 5 || x.getLsbD 24) = true then _ else _) = _
  cases hT : x.getLsbD 5 with
  | true =>
    rw [hT, if_pos rfl] at hv
    rw [hv, if_neg (by decide), if_pos (by rfl)]
    rfl
  | false =>
    rw [hT, if_neg Bool.false_ne_true] at hv
    rw [if_neg (by simp)]
    cases hJ : x.getLsbD 24 with
    | true => rfl
    | false => exact (branchArm_ok (s.setCpsr x) _ v).mpr ⟨hv hJ, rfl⟩

/-- Each of the twelve, its destination R15, is the end of R201 on its result. -/
theorem exec_dpOp_pc (k : DpOp) (hc : conditionPassed c s = true) (hop : operand2Allowed (k.regs rn 15) op = true) :
    exec (k.instr c sf rn 15 op) s =
      finish s (writeAluPc s sf (k.value (s.readReg rn) (shifterOperand s op).1 s.flagC)) := by
  cases k.runs c sf rn 15 op s with
  | arith f hregs hx hval _ _ =>
    rw [hregs, operand2Allowed_perm (List.Perm.swap rn 15 []) op] at hop
    rw [hx, arithOp, finish_conditional_of_pass hc, require_bind hop, ← hval]
    exact congrArg _ writeAlu_pc
  | logic f sources hregs hx hval _ _ =>
    rw [hregs] at hop
    rw [hx, logicOp, finish_conditional_of_pass hc, require_bind hop, ← hval]
    exact congrArg _ writeAlu_pc

/-- Settles O23: without S the result is a branch in ARM state, with S an exception return. -/
theorem dataProcessingToPc : Obligations.DataProcessingToPc := by
  unfold Obligations.DataProcessingToPc
  intro k c rn rm op s hc hop v
  have hcpy : exec (.cpy c 15 rm) s = finish s (branchArm s (s.readReg rm)) := finish_conditional_of_pass hc
  refine ⟨fun h => ?_, fun h => ?_, fun h => ?_, fun h => ?_, fun h => ?_, fun x hx hu hm hv => ?_⟩
  · rw [exec_dpOp_pc k hc hop]
    exact finish_branchArm h
  · rw [exec_dpOp_pc k hc hop]
    exact stopsAs_branchArm h
  · rw [hcpy]
    exact finish_branchArm h
  · rw [hcpy]
    exact stopsAs_branchArm h
  · rw [exec_dpOp_pc k hc hop]
    exact writeAluPc_of_no_spsr h
  · rw [exec_dpOp_pc k hc hop]
    exact writeAluPc_of_spsr hx hu hm hv

end

end Sys2Proof.Machine
end

section
/-! The eleven forms of Addressing Mode 1 by integer arithmetic (O25). -/

namespace Sys2Proof.Machine

variable (x : Word) {n : Nat}

theorem shiftLeft_eq_ofNat (n : Nat) : x <<< n = BitVec.ofNat 32 (x.toNat * 2 ^ n) := by
  apply BitVec.eq_of_toNat_eq
  rw [BitVec.toNat_shiftLeft, BitVec.toNat_ofNat, Nat.shiftLeft_eq]

theorem shiftRight_eq_ofNat (n : Nat) : x >>> n = BitVec.ofNat 32 (x.toNat / 2 ^ n) := by
  apply BitVec.eq_of_toNat_eq
  rw [BitVec.toNat_ushiftRight, BitVec.toNat_ofNat, Nat.shiftRight_eq_div_pow,
    Nat.mod_eq_of_lt (lt_of_le_of_lt (Nat.div_le_self _ _) x.isLt)]

theorem asr_eq_ofInt (n : Nat) : asr x n = BitVec.ofInt 32 (x.toInt / 2 ^ n) := by
  have h : (asr x n).toInt = x.toInt / 2 ^ n := by
    rw [asr, BitVec.toInt_sshiftRight, Int.shiftRight_eq_div_pow]
    rfl
  rw [← h, BitVec.ofInt_toInt]

/-- Beyond 31 places only the sign is left. -/
theorem asr_of_ge (h : 32 ≤ n) : asr x n = asr x 32 := by
  have big : ∀ m, 32 ≤ m → x.sshiftRight m = if x.msb then BitVec.allOnes 32 else 0#32 := fun m hm => by
    apply BitVec.eq_of_getLsbD_eq
    intro k hk
    rw [BitVec.getLsbD_sshiftRight, if_neg (by omega), decide_eq_false (by omega), Bool.not_false, Bool.true_and]
    cases x.msb
    · exact BitVec.getLsbD_zero.symm
    · exact ((BitVec.getLsbD_allOnes).trans (decide_eq_true hk)).symm
  rw [asr, asr, big n h, big 32 le_rfl]

theorem rrx_eq (c : Bool) : withBit (x >>> 1) 31 c = BitVec.ofBool c ++ x.extractLsb' 1 31 := by
  apply BitVec.eq_of_getLsbD_eq
  intro k hk
  simp only [getLsbD_withBit, BitVec.getLsbD_append, BitVec.getLsbD_ushiftRight, BitVec.getLsbD_extractLsb',
    BitVec.getLsbD_ofBool]
  split
  next h => subst h; simp
  next h => rw [if_pos (by omega), decide_eq_true (by omega), Bool.true_and]

theorem rotr_eq (h : n < 32) : rotr x n = (x >>> n) ||| (x <<< (32 - n)) := by
  rw [rotr, BitVec.rotateRight_def, Nat.mod_eq_of_lt h]

theorem getLsbD_thirtyOne : x.getLsbD 31 = x.msb := (BitVec.msb_eq_getLsbD_last x).symm

/-! ### Shifts by an immediate -/

theorem shiftByImm_lsl (n : Nat) (c : Bool) :
    shiftByImm .lsl x n c = (BitVec.ofNat 32 (x.toNat * 2 ^ n), if n = 0 then c else x.getLsbD (32 - n)) := by
  rw [← shiftLeft_eq_ofNat]
  unfold shiftByImm
  dsimp only
  split
  next h => rw [h, BitVec.shiftLeft_zero]
  next => rfl

/-- LSR and ASR by 0 shift by 32. -/
theorem shiftByImm_lsr (n : Nat) (c : Bool) :
    let k := if n = 0 then 32 else n
    shiftByImm .lsr x n c = (BitVec.ofNat 32 (x.toNat / 2 ^ k), x.getLsbD (k - 1)) := by
  dsimp only
  rw [← shiftRight_eq_ofNat]
  unfold shiftByImm
  dsimp only
  split
  next =>
    rw [BitVec.ushiftRight_eq_zero le_rfl]
    rfl
  next => rfl

theorem shiftByImm_asr (n : Nat) (c : Bool) :
    let k := if n = 0 then 32 else n
    shiftByImm .asr x n c = (BitVec.ofInt 32 (x.toInt / 2 ^ k), x.getLsbD (k - 1)) := by
  dsimp only
  rw [← asr_eq_ofInt]
  unfold shiftByImm
  dsimp only
  split <;> rfl

theorem shiftByImm_ror (hn : n < 32) (c : Bool) :
    shiftByImm .ror x n c =
      if n = 0 then (BitVec.ofBool c ++ x.extractLsb' 1 31, x.getLsbD 0)
      else ((x >>> n) ||| (x <<< (32 - n)), x.getLsbD (n - 1)) := by
  rw [← rrx_eq, ← rotr_eq x hn]
  rfl

/-! ### Shifts by a register -/

theorem shiftByReg_lsl (r : Nat) (c : Bool) :
    shiftByReg .lsl x r c =
      (BitVec.ofNat 32 (x.toNat * 2 ^ r), if r = 0 then c else decide (r ≤ 32) && x.getLsbD (32 - r)) := by
  rw [← shiftLeft_eq_ofNat]
  unfold shiftByReg
  split
  next h => rw [h, BitVec.shiftLeft_zero]
  next h =>
    dsimp only
    split
    next hlt => rw [decide_eq_true (by omega), Bool.true_and]
    next hge =>
      rw [BitVec.shiftLeft_eq_zero (by omega)]
      split
      next h32 => subst h32; rfl
      next h32 =>
        rw [decide_eq_false (by omega), Bool.false_and]
        rfl

theorem shiftByReg_lsr (r : Nat) (c : Bool) :
    shiftByReg .lsr x r c = (BitVec.ofNat 32 (x.toNat / 2 ^ r), if r = 0 then c else x.getLsbD (r - 1)) := by
  rw [← shiftRight_eq_ofNat]
  unfold shiftByReg
  split
  next h => rw [h, BitVec.ushiftRight_zero]
  next h =>
    dsimp only
    split
    next => rfl
    next hge =>
      rw [BitVec.ushiftRight_eq_zero (by omega)]
      split
      next h32 => subst h32; rfl
      next h32 =>
        rw [BitVec.getLsbD_of_ge x (r - 1) (by omega)]
        rfl

theorem shiftByReg_asr (r : Nat) (c : Bool) :
    shiftByReg .asr x r c =
      (BitVec.ofInt 32 (x.toInt / 2 ^ r), if r = 0 then c else if r ≤ 32 then x.getLsbD (r - 1) else x.msb) := by
  rw [← asr_eq_ofInt]
  unfold shiftByReg
  split
  next h => rw [h, asr, BitVec.sshiftRight_zero]
  next h =>
    dsimp only
    split
    next hlt => rw [if_pos (by omega)]
    next hge =>
      rw [asr_of_ge x (by omega : 32 ≤ r), ← getLsbD_thirtyOne]
      split
      next h32 => rw [show r = 32 by omega]
      next => rfl

theorem shiftByReg_ror (r : Nat) (c : Bool) :
    shiftByReg .ror x r c =
      (x.rotateRight (r % 32), if r = 0 then c else if r % 32 = 0 then x.msb else x.getLsbD (r % 32 - 1)) := by
  have rotate_zero : x.rotateRight 0 = x := by
    rw [BitVec.rotateRight_def]
    simp
  unfold shiftByReg
  split
  next h => rw [h, Nat.zero_mod, rotate_zero]
  next h =>
    dsimp only
    split
    next h0 => rw [h0, rotate_zero, getLsbD_thirtyOne]
    next => rfl

/-- Settles O25: the immediate form by its definition, the others by their shift. -/
theorem shifterForms : Obligations.ShifterForms := by
  unfold Obligations.ShifterForms
  intro s rs rm amount rot imm x n k r
  have hr : ((s.readReg rs).extractLsb' 0 8).toNat = r := by simp [r]
  refine ⟨?_, shiftByImm_lsl x n s.flagC, shiftByImm_lsr x n s.flagC, shiftByImm_asr x n s.flagC,
    shiftByImm_ror x amount.isLt s.flagC, ?_, ?_, ?_, ?_⟩
  · exact congrArg (Prod.mk _) (congrArg (ite _ _) (getLsbD_thirtyOne _))
  · rw [shifterOperand, hr, shiftByReg_lsl]
  · rw [shifterOperand, hr, shiftByReg_lsr]
  · rw [shifterOperand, hr, shiftByReg_asr]
  · rw [shifterOperand, hr, shiftByReg_ror]

end Sys2Proof.Machine
end

section
/-! The multiplies (O26 to O30). -/

namespace Sys2Proof.Machine

variable {c : Cond} {sf : Bool} {rd rn rs rm hi lo : Reg} {s t : State} {v : Word} {r : BitVec 64}

/-! ### The flags of R243 -/

theorem withBit_nz (x : Word) (n z : Bool) :
    withBit (withBit x 31 n) 30 z = psrFlags x n z (x.getLsbD 29) (x.getLsbD 28) := by
  have hbit : (withBit (withBit x 31 n) 30 z).getLsbD 29 = x.getLsbD 29 := by
    simp only [getLsbD_withBit, Nat.reduceEqDiff, if_false]
  rw [← withBit_logicFlags, ← hbit, withBit_self]

theorem past_mulFlagged_short (t : State) (n z : Bool) : (t.setMulFlags n z).past =
    t.past.mulFlagged true false n z := by
  unfold State.setMulFlags State.mulFlagged
  rw [Bool.not_true, if_neg Bool.false_ne_true, show t.past.arch = t.arch from rfl]
  split
  next => exact congrArg (fun x => ({ t with cpsr := x } : State).past) (withBit_nz t.cpsr n z)
  next =>
    exact congrArg (fun x => ({ t with cpsr := x, freeCount := t.freeCount + 1 } : State).past)
      (withBit_logicFlags t.cpsr n z _)

theorem past_mulFlagged_long (t : State) (n z : Bool) :
    (t.setMulLongFlags n z).past = t.past.mulFlagged true true n z := by
  unfold State.setMulLongFlags State.mulFlagged
  rw [Bool.not_true, if_neg Bool.false_ne_true, show t.past.arch = t.arch from rfl]
  split
  next => exact congrArg (fun x => ({ t with cpsr := x } : State).past) (withBit_nz t.cpsr n z)
  next =>
    exact congrArg (fun x => ({ t with cpsr := x, freeCount := t.freeCount + 1 } : State).past)
      (withBit_flags t.cpsr n z _ _)

theorem State.result_self (s : State) (rd : Reg) (v : Word) : s.result rd v s.cpsr = (s.writeReg rd v).past := by
  rw [State.result, ← State.writeReg_cpsr s rd v]

/-! ### The shapes of a multiply -/

theorem noPc_two {a b : Reg} (ha : a ≠ 15) (hb : b ≠ 15) : ∀ r ∈ [a, b], r ≠ 15 :=
  List.forall_mem_cons.mpr ⟨ha, List.forall_mem_singleton.mpr hb⟩

theorem noPc_three {a b d : Reg} (ha : a ≠ 15) (hb : b ≠ 15) (hd : d ≠ 15) : ∀ r ∈ [a, b, d], r ≠ 15 :=
  List.forall_mem_cons.mpr ⟨ha, noPc_two hb hd⟩

theorem noPc_four {a b d e : Reg} (ha : a ≠ 15) (hb : b ≠ 15) (hd : d ≠ 15) (he : e ≠ 15) : ∀ r ∈ [a, b, d, e],
    r ≠ 15 :=
  List.forall_mem_cons.mpr ⟨ha, noPc_three hb hd he⟩

theorem mulOp_result {sources : List Reg} (hr : s.runs c) (hregs : ∀ r ∈ rd :: sources, r ≠ 15)
    (hrm : s.isV6 = true ∨ rd ≠ rm) :
    mulOp c sf rd sources rm s v = .next ((s.result rd v s.cpsr).mulFlagged sf false v.msb (v == 0)) := by
  have hnot : requireNotRm s [rd] rm = .ok () := (requireNotRm_ok ..).mpr (by simpa using hrm)
  rw [mulOp, finish_conditional_of_pass hr.1, Exec.bind_of_ok ((requireNoPc_ok _).mpr hregs), Exec.bind_of_ok hnot,
    State.result_self, BitVec.msb_eq_getLsbD_last]
  cases sf with
  | false => exact finish_advance (State.writeReg_pc ..) hr.2
  | true =>
    rw [← past_mulFlagged_short]
    exact finish_advance ((State.setMulFlags_pc ..).trans (State.writeReg_pc ..)) hr.2

theorem writePair_past (s : State) (hi lo : Reg) (r : BitVec 64) : (writePair s hi lo r).past = s.resultPair hi lo r :=
    rfl

theorem mulLongOp_result (hr : s.runs c) (hregs : ∀ r ∈ [hi, lo, rs, rm], r ≠ 15) (hne : hi ≠ lo)
    (hrm : s.isV6 = true ∨ (hi ≠ rm ∧ lo ≠ rm)) :
    mulLongOp c sf hi lo rs rm s r = .next ((s.resultPair hi lo r).mulFlagged sf true r.msb (r == 0)) := by
  have hnot : requireNotRm s [hi, lo] rm = .ok () := (requireNotRm_ok ..).mpr (by simpa using hrm)
  rw [mulLongOp, finish_conditional_of_pass hr.1, Exec.bind_of_ok ((requireNoPc_ok _).mpr hregs),
    require_bind (bne_iff_ne.mpr hne), Exec.bind_of_ok hnot, BitVec.msb_eq_getLsbD_last]
  have hpc : (writePair s hi lo r).pc = s.pc := by simp [writePair]
  cases sf with
  | false => exact finish_advance hpc hr.2
  | true =>
    rw [← writePair_past, ← past_mulFlagged_long]
    exact finish_advance ((State.setMulLongFlags_pc ..).trans hpc) hr.2

theorem mulLongNoFlags_result (hr : s.runs c) (hregs : ∀ r ∈ [hi, lo, rs, rm], r ≠ 15) (hne : hi ≠ lo) :
    mulLongNoFlags c hi lo rs rm s r = .next (s.resultPair hi lo r) := by
  rw [mulLongNoFlags, finish_conditional_of_pass hr.1, Exec.bind_of_ok ((requireNoPc_ok _).mpr hregs),
    require_bind (bne_iff_ne.mpr hne)]
  exact finish_advance (by simp [writePair]) hr.2

theorem mulQ_result {sources : List Reg} {exact' : Int} (hr : s.runs c) (hregs : ∀ r ∈ rd :: sources, r ≠ 15) :
    mulQ c rd sources s exact' =
      .next (s.result rd (BitVec.ofInt 32 exact') (psrSticky s.cpsr (outside32 exact'))) := by
  rw [mulQ, finish_conditional_of_pass hr.1, Exec.bind_of_ok ((requireNoPc_ok _).mpr hregs)]
  exact finish_ok (advance_stickQ_writeReg hr.2)

theorem mulPlain_result {sources : List Reg} (hr : s.runs c) (hregs : ∀ r ∈ rd :: sources, r ≠ 15) :
    mulPlain c rd sources s v = .next (s.result rd v s.cpsr) := by
  rw [mulPlain, finish_conditional_of_pass hr.1, Exec.bind_of_ok ((requireNoPc_ok _).mpr hregs)]
  exact finish_ok (advance_writeReg hr.2)

/-! ### Products as bit vectors -/

theorem ofInt_sub (n : Nat) (x y : Int) : BitVec.ofInt n (x - y) = BitVec.ofInt n x - BitVec.ofInt n y := by
  rw [Int.sub_eq_add_neg, BitVec.ofInt_add, BitVec.ofInt_neg, BitVec.sub_eq_add_neg]

theorem ofInt_product {m k : Nat} (n : Nat) (x : BitVec m) (y : BitVec k) :
    BitVec.ofInt n (x.toInt * y.toInt) = x.signExtend n * y.signExtend n := BitVec.ofInt_mul ..

theorem ofNat_product {m k : Nat} (n : Nat) (x : BitVec m) (y : BitVec k) :
    BitVec.ofNat n (x.toNat * y.toNat) = x.setWidth n * y.setWidth n := by
  rw [BitVec.ofNat_mul, BitVec.ofNat_toNat, BitVec.ofNat_toNat]

/-- Settles O26. -/
theorem multiplyResults : Obligations.MultiplyResults := by
  unfold Obligations.MultiplyResults
  intro c sf rd rn rs rm s hr hrd hrs hrm h6 v w
  have hv : BitVec.ofNat 32 (unsignedProduct s rm rs) = v := by
    rw [unsignedProduct, ofNat_product, BitVec.setWidth_eq, BitVec.setWidth_eq]
  have hw : BitVec.ofNat 32 (unsignedProduct s rm rs + (s.readReg rn).toNat) = w := by
    rw [BitVec.ofNat_add, hv, BitVec.ofNat_toNat, BitVec.setWidth_eq]
  refine ⟨?_, fun hrn => ?_⟩
  · rw [← hv]
    exact mulOp_result hr (noPc_three hrd hrs hrm) h6
  · rw [← hw]
    exact mulOp_result hr (noPc_four hrd hrn hrs hrm) h6

/-- Settles O27. -/
theorem longMultiplyResults : Obligations.LongMultiplyResults := by
  unfold Obligations.LongMultiplyResults
  intro c sf x y hi lo rs rm s hr hhi hlo hrs hrm hne acc up sp straight crossed
  have hregs := noPc_four hhi hlo hrs hrm
  have hup : BitVec.ofNat 64 (unsignedProduct s rm rs) = up := ofNat_product 64 (s.readReg rm) (s.readReg rs)
  have hsp : BitVec.ofInt 64 (signedProduct s rm rs) = sp := ofInt_product 64 (s.readReg rm) (s.readReg rs)
  have hp1 : BitVec.ofInt 64 (dualProduct1 s rm rs x) = straight := ofInt_product 64 (s.half rm false) (s.half rs x)
  have hp2 : BitVec.ofInt 64 (dualProduct2 s rm rs x) = crossed := ofInt_product 64 (s.half rm true) (s.half rs (!x))
  have hacc : regPair s hi lo = acc := rfl
  refine ⟨fun h6 => ⟨?_, ?_, ?_, ?_⟩, ?_, ?_, ?_, ?_⟩
  · rw [← hup]
    exact mulLongOp_result hr hregs hne h6
  · rw [← hup, ← hacc]
    exact mulLongOp_result hr hregs hne h6
  · rw [← hsp]
    exact mulLongOp_result hr hregs hne h6
  · rw [← hsp, ← hacc]
    exact mulLongOp_result hr hregs hne h6
  · have hsum : BitVec.ofNat 64 (unsignedProduct s rm rs + (s.readReg lo).toNat + (s.readReg hi).toNat) =
        up + (s.readReg hi).setWidth 64 + (s.readReg lo).setWidth 64 := by
      rw [BitVec.ofNat_add, BitVec.ofNat_add, hup, BitVec.ofNat_toNat, BitVec.ofNat_toNat, add_right_comm]
    rw [← hsum]
    exact mulLongNoFlags_result hr hregs hne
  · rw [← hacc, ← ofInt_product]
    exact mulLongNoFlags_result hr hregs hne
  · rw [← hacc, add_assoc, ← hp1, ← hp2, ← BitVec.ofInt_add]
    exact mulLongNoFlags_result hr hregs hne
  · rw [← hacc, add_sub_assoc, ← hp1, ← hp2, ← ofInt_sub]
    exact mulLongNoFlags_result hr hregs hne

/-- Settles O28. -/
theorem accumulateResults : Obligations.AccumulateResults := by
  unfold Obligations.AccumulateResults
  intro c x y rd rn rs rm s hr hrd hrn hrs hrm n p p1 p2 q
  refine ⟨?_, ?_, ?_, ?_, ?_⟩
  · rw [Int.add_comm p n]
    exact mulQ_result hr (noPc_four hrd hrn hrs hrm)
  · exact mulQ_result hr (noPc_four hrd hrn hrs hrm)
  · exact mulQ_result hr (noPc_three hrd hrs hrm)
  · rw [Int.add_sub_assoc]
    exact mulQ_result hr (noPc_three hrd hrs hrm)
  · exact mulQ_result hr (noPc_three hrd hrs hrm)

/-- Bits 47:16 of a product taken at 48 bits. -/
theorem ofInt_div_65536 (p : Int) : BitVec.ofInt 32 (p / 2 ^ 16) = (BitVec.ofInt 48 p).extractLsb' 16 32 := by
  apply BitVec.eq_of_toNat_eq
  rw [BitVec.toNat_ofInt, BitVec.extractLsb'_toNat, BitVec.toNat_ofInt, Nat.shiftRight_eq_div_pow]
  omega

theorem ofInt_shiftLeft_32 (x : Word) : BitVec.ofInt 64 ((x.toNat : Int) * 2 ^ 32) = x ++ 0#32 := by
  apply BitVec.eq_of_toNat_eq
  have hx := x.isLt
  rw [BitVec.toNat_ofInt, BitVec.toNat_append, Nat.shiftLeft_eq, BitVec.toNat_ofNat, Nat.zero_mod, Nat.or_zero]
  omega

theorem ofInt_roundingConstant (r : Bool) :
    BitVec.ofInt 64 (roundingConstant r) = if r then 0x80000000 else 0 := by cases r <;> rfl

/-- Settles O29. -/
theorem plainMultiplyResults : Obligations.PlainMultiplyResults := by
  unfold Obligations.PlainMultiplyResults
  intro c x y r rd rn rs rm s hr hrd hrn hrs hrm p acc round
  have hp : BitVec.ofInt 64 (signedProduct s rm rs) = p := ofInt_product 64 (s.readReg rm) (s.readReg rs)
  have hacc : BitVec.ofInt 64 ((s.readReg rn).toNat * 2 ^ 32) = acc := ofInt_shiftLeft_32 _
  have hround : BitVec.ofInt 64 (roundingConstant r) = round := ofInt_roundingConstant r
  have hregs := noPc_three hrd hrs hrm
  refine ⟨?_, ?_, ?_, ?_, ?_, ?_⟩
  · rw [← ofInt_product]
    exact mulPlain_result hr hregs
  · rw [← ofInt_product, ← ofInt_div_65536]
    exact mulPlain_result hr hregs
  · rw [← ofInt_product, ← ofInt_product, ← ofInt_sub]
    exact mulPlain_result hr hregs
  · rw [← hp, ← hround, ← BitVec.ofInt_add]
    exact mulPlain_result hr hregs
  · rw [← hp, ← hround, ← hacc, ← BitVec.ofInt_add, ← BitVec.ofInt_add]
    exact mulPlain_result hr hregs
  · rw [← hp, ← hround, ← hacc, ← ofInt_sub, ← BitVec.ofInt_add]
    exact mulPlain_result hr (noPc_four hrd hrn hrs hrm)

/-! ### Rm as a destination (R244) -/

theorem requireNotRm_of_mem {dests : List Reg} (h6 : s.isV6 = false) (h : rm ∈ dests) :
    requireNotRm s dests rm = unpredictable .sameRegister := by
  have hfails : dests.all (fun r => r != rm) = false := List.all_eq_false.mpr ⟨rm, h, by simp⟩
  rw [requireNotRm, h6, hfails]
  rfl

theorem mulOp_stops {sources : List Reg} (hr : s.runs c) (hregs : ∀ r ∈ rd :: sources, r ≠ 15) (h6 : s.isV6 = false)
    (hrm : rd = rm) : stopsAs (mulOp c sf rd sources rm s v) .sameRegister := by
  subst hrm
  rw [mulOp, finish_conditional_of_pass hr.1, Exec.bind_of_ok ((requireNoPc_ok _).mpr hregs)]
  exact stopsAs_finish (Exec.bind_of_error (requireNotRm_of_mem h6 (List.mem_singleton.mpr rfl)))

theorem mulLongOp_stops (hr : s.runs c) (hregs : ∀ r ∈ [hi, lo, rs, rm], r ≠ 15) (h6 : s.isV6 = false)
    (hrm : hi = rm ∨ lo = rm) : stopsAs (mulLongOp c sf hi lo rs rm s r) .sameRegister := by
  rw [mulLongOp, finish_conditional_of_pass hr.1, Exec.bind_of_ok ((requireNoPc_ok _).mpr hregs)]
  by_cases hne : hi = lo
  · exact stopsAs_finish (require_bind_of_not (bne_eq_false_iff_eq.mpr hne))
  · rw [require_bind (bne_iff_ne.mpr hne)]
    refine stopsAs_finish (Exec.bind_of_error (requireNotRm_of_mem h6 ?_))
    rcases hrm with rfl | rfl <;> simp

/-- Settles O30. -/
theorem oldMultiplyRestriction : Obligations.OldMultiplyRestriction := by
  unfold Obligations.OldMultiplyRestriction
  intro c sf d e rs rm s hr hd he hrs hrm
  have hlong := noPc_four hd he hrs hrm
  have hmul := noPc_three hd hrs hrm
  refine ⟨fun h6 _ => ⟨⟨_, mulOp_result hr hmul (.inl h6)⟩, ⟨_, mulOp_result hr hlong (.inl h6)⟩⟩, fun h6 hne _ => ?_,
    fun h6 hrm => ⟨mulOp_stops hr hmul h6 hrm, mulOp_stops hr hlong h6 hrm⟩, fun h6 hrm => ?_⟩
  · exact ⟨⟨_, mulLongOp_result hr hlong hne (.inl h6)⟩, ⟨_, mulLongOp_result hr hlong hne (.inl h6)⟩,
      ⟨_, mulLongOp_result hr hlong hne (.inl h6)⟩, ⟨_, mulLongOp_result hr hlong hne (.inl h6)⟩⟩
  · exact ⟨mulLongOp_stops hr hlong h6 hrm, mulLongOp_stops hr hlong h6 hrm, mulLongOp_stops hr hlong h6 hrm,
      mulLongOp_stops hr hlong h6 hrm⟩

end Sys2Proof.Machine
end

section
/-! The media instructions: parallel arithmetic, SEL, the sums of differences, saturation, pack, reverse and extend
(O31, O32, O34, O35). -/

namespace Sys2Proof.Machine

variable {c : Cond} {rd rn rs rm : Reg} {s : State} {k : LaneKind} {w : Nat}

/-! ### Saturation as the nearest value of a range -/

theorem signedSat_eq_clamp (x : Int) (n : Nat) : signedSat x n = clamp (-(2 ^ (n - 1))) (2 ^ (n - 1) - 1) x := by
  have hpos : (0 : Int) < 2 ^ (n - 1) := by positivity
  unfold signedSat clamp
  omega

theorem unsignedSat_eq_clamp (x : Int) (n : Nat) : unsignedSat x n = clamp 0 (2 ^ n - 1) x := by
  have hpos : (0 : Int) < 2 ^ n := by positivity
  unfold unsignedSat clamp
  omega

/-- Clamping changes a value exactly when it lies outside the range. -/
theorem clamp_bne {lo hi : Int} (h : lo ≤ hi) (x : Int) : (clamp lo hi x != x) =
    (decide (x < lo) || decide (hi < x)) := by
  rw [Bool.eq_iff_iff, bne_iff_ne, Bool.or_eq_true, decide_eq_true_eq, decide_eq_true_eq]
  unfold clamp
  omega

theorem signedDoesSat_eq_bne (x : Int) (n : Nat) :
    signedDoesSat x n = (clamp (-(2 ^ (n - 1))) (2 ^ (n - 1) - 1) x != x) := by
  have hpos : (0 : Int) < 2 ^ (n - 1) := by positivity
  rw [clamp_bne (by omega), signedDoesSat]

theorem unsignedDoesSat_eq_bne (x : Int) (n : Nat) : unsignedDoesSat x n = (clamp 0 (2 ^ n - 1) x != x) := by
  have hpos : (0 : Int) < 2 ^ n := by positivity
  rw [clamp_bne (by omega), unsignedDoesSat]

/-! ### A lane of the parallel instructions -/

/-- Halving an exact result keeps bits `w`:1 of it (R284). -/
theorem ofInt_half (e : Int) : BitVec.ofInt w (e / 2) = (BitVec.ofInt (w + 1) e).extractLsb' 1 w := by
  have hm : (0 : Int) < 2 ^ w := by positivity
  have hcast : ((2 ^ w : Nat) : Int) = 2 ^ w := Nat.cast_pow 2 w
  have hmod : e % (2 * 2 ^ w) / 2 = e / 2 % 2 ^ w := by
    have hdiv := Int.emod_add_mul_ediv (e / 2) (2 ^ w)
    have hlt := Int.emod_lt_of_pos (e / 2) hm
    have hge := Int.emod_nonneg (e / 2) hm.ne'
    have he : e = (2 * (e / 2 % 2 ^ w) + e % 2) + 2 * 2 ^ w * (e / 2 / 2 ^ w) := by
      rw [mul_assoc]
      omega
    have hrem : e % (2 * 2 ^ w) = 2 * (e / 2 % 2 ^ w) + e % 2 := by
      conv_lhs => rw [he, Int.add_mul_emod_self_left]
      exact Int.emod_eq_of_lt (by omega) (by omega)
    omega
  apply BitVec.eq_of_toNat_eq
  rw [BitVec.toNat_ofInt, BitVec.extractLsb'_toNat, BitVec.toNat_ofInt, Nat.shiftRight_eq_div_pow, pow_one, hcast,
    Nat.cast_pow, pow_succ', Nat.cast_ofNat, ← hmod]
  have hlt := Int.emod_lt_of_pos e (show (0 : Int) < 2 * 2 ^ w by omega)
  have hge := Int.emod_nonneg e (show (2 * 2 ^ w : Int) ≠ 0 by omega)
  rw [Nat.mod_eq_of_lt (by omega)]
  omega

theorem ofInt_signedSum (n : Nat) (minus : Bool) (x y : BitVec w) :
    BitVec.ofInt n (if minus then x.toInt - y.toInt else x.toInt + y.toInt) =
      if minus then x.signExtend n - y.signExtend n else x.signExtend n + y.signExtend n := by
  split
  · exact ofInt_sub ..
  · exact BitVec.ofInt_add ..

theorem ofInt_unsignedSum (n : Nat) (minus : Bool) (x y : BitVec w) :
    BitVec.ofInt n (if minus then (x.toNat : Int) - y.toNat else x.toNat + y.toNat) =
      if minus then x.setWidth n - y.setWidth n else x.setWidth n + y.setWidth n := by
  split
  · rw [ofInt_sub, BitVec.ofInt_natCast, BitVec.ofInt_natCast, BitVec.ofNat_toNat, BitVec.ofNat_toNat]
  · rw [BitVec.ofInt_add, BitVec.ofInt_natCast, BitVec.ofInt_natCast, BitVec.ofNat_toNat, BitVec.ofNat_toNat]

theorem laneValue_eq_laneField (k : LaneKind) (minus : Bool) (x y : BitVec w) :
    laneValue k minus x y = laneField k minus x y := by
  cases k with
  | s => exact (ofInt_signedSum w minus x y).trans (by rw [BitVec.signExtend_eq, BitVec.signExtend_eq]; rfl)
  | u => exact (ofInt_unsignedSum w minus x y).trans (by rw [BitVec.setWidth_eq, BitVec.setWidth_eq]; rfl)
  | q => exact congrArg (BitVec.ofInt w) (signedSat_eq_clamp _ w)
  | uq => exact congrArg (BitVec.ofInt w) (unsignedSat_eq_clamp _ w)
  | sh => exact (ofInt_half _).trans (congrArg (BitVec.extractLsb' 1 w) (ofInt_signedSum (w + 1) minus x y))
  | uh => exact (ofInt_half _).trans (congrArg (BitVec.extractLsb' 1 w) (ofInt_unsignedSum (w + 1) minus x y))

/-- R282, R283: GE of the two kinds that write it. -/
theorem laneGe_eq_laneFlag (hk : k = .s ∨ k = .u) (minus : Bool) (x y : BitVec w) :
    laneGe k minus x y = laneFlag k minus x y := by
  have hcast : ((2 ^ w : Nat) : Int) = 2 ^ w := Nat.cast_pow 2 w
  rcases hk with rfl | rfl <;> cases minus
  case inl.false => rfl
  case inl.true => exact decide_eq_decide.mpr Int.sub_nonneg
  case inr.false =>
    exact decide_eq_decide.mpr (show (2 ^ w : Int) ≤ x.toNat + y.toNat ↔ 2 ^ w ≤ x.toNat + y.toNat by omega)
  case inr.true => exact decide_eq_decide.mpr (show (0 : Int) ≤ x.toNat - y.toNat ↔ y.toNat ≤ x.toNat by omega)

/-! ### The thirty-six -/

/-- The meaning's own lane operation of each of R280. -/
def LaneOp.run : LaneOp → LaneKind → Word → Word → LaneOut
  | .add16 => Machine.add16
  | .addSubX => Machine.addSubX
  | .subAddX => Machine.subAddX
  | .sub16 => Machine.sub16
  | .add8 => Machine.add8
  | .sub8 => Machine.sub8

theorem exec_parallelInstr (k : LaneKind) (o : LaneOp) (c : Cond) (rn rd rm : Reg) (s : State) :
    exec (parallelInstr k o c rn rd rm) s = parallelOp k o.run c rn rd rm s := by
  cases k <;> cases o <;> rfl

theorem ofBytes_eq (b3 b2 b1 b0 : Byte) : ofBytes b3 b2 b1 b0 = b3 ++ (b2 ++ (b1 ++ b0)) := by
  rw [ofBytes, BitVec.append_assoc, BitVec.append_assoc]
  rfl

theorem halfLanes_value (k : LaneKind) (mHi mLo : Bool) (x : Word) (y1 y0 : Half) :
    (halfLanes k mHi mLo x y1 y0).value =
      laneField k mHi (x.extractLsb' 16 16) y1 ++ laneField k mLo (x.extractLsb' 0 16) y0 := by
  rw [← laneValue_eq_laneField, ← laneValue_eq_laneField]
  rfl

theorem byteLanes_value (k : LaneKind) (minus : Bool) (x y : Word) :
    let field (i : Nat) : Byte := laneField k minus (x.extractLsb' (8 * i) 8) (y.extractLsb' (8 * i) 8)
    (byteLanes k minus x y).value = field 3 ++ (field 2 ++ (field 1 ++ field 0)) := by
  dsimp only
  rw [← ofBytes_eq, ← laneValue_eq_laneField, ← laneValue_eq_laneField, ← laneValue_eq_laneField,
    ← laneValue_eq_laneField]
  rfl

theorem LaneOp.run_value (k : LaneKind) (o : LaneOp) (x y : Word) :
    (o.run k x y).value = (parallelResult k o x y).1 := by
  cases o with
  | add16 | addSubX | subAddX | sub16 => exact halfLanes_value ..
  | add8 | sub8 => exact byteLanes_value ..

theorem geBits_eq (g3 g2 g1 g0 : Bool) :
    geBits g3 g2 g1 g0 = BitVec.ofBool g3 ++ (BitVec.ofBool g2 ++ (BitVec.ofBool g1 ++ BitVec.ofBool g0)) := by
  rw [geBits, BitVec.append_assoc, BitVec.append_assoc]
  rfl

theorem halfLanes_ge (hk : k = .s ∨ k = .u) (mHi mLo : Bool) (x : Word) (y1 y0 : Half) :
    let flagHi : BitVec 1 := BitVec.ofBool (laneFlag k mHi (x.extractLsb' 16 16) y1)
    let flagLo : BitVec 1 := BitVec.ofBool (laneFlag k mLo (x.extractLsb' 0 16) y0)
    (halfLanes k mHi mLo x y1 y0).ge = flagHi ++ (flagHi ++ (flagLo ++ flagLo)) := by
  dsimp only
  rw [← geBits_eq, ← laneGe_eq_laneFlag hk, ← laneGe_eq_laneFlag hk]
  rfl

theorem byteLanes_ge (hk : k = .s ∨ k = .u) (minus : Bool) (x y : Word) :
    let flag (i : Nat) : BitVec 1 :=
      BitVec.ofBool (laneFlag k minus (x.extractLsb' (8 * i) 8) (y.extractLsb' (8 * i) 8))
    (byteLanes k minus x y).ge = flag 3 ++ (flag 2 ++ (flag 1 ++ flag 0)) := by
  dsimp only
  rw [← geBits_eq, ← laneGe_eq_laneFlag hk, ← laneGe_eq_laneFlag hk, ← laneGe_eq_laneFlag hk, ← laneGe_eq_laneFlag hk]
  rfl

theorem LaneOp.run_ge (hk : k = .s ∨ k = .u) (o : LaneOp) (x y : Word) :
    (o.run k x y).ge = (parallelResult k o x y).2 := by
  cases o with
  | add16 | addSubX | subAddX | sub16 => exact halfLanes_ge hk ..
  | add8 | sub8 => exact byteLanes_ge hk ..

theorem laneSetsGe_iff (k : LaneKind) : laneSetsGe k = true ↔ k = .s ∨ k = .u := by cases k <;> decide

theorem withField_16_eq_psrGe (x : Word) (ge : BitVec 4) : withField x 16 ge = psrGe x ge := by
  apply BitVec.eq_of_getLsbD_eq
  intro j hj
  simp only [psrGe, getLsbD_withField _ _ _ _ hj, BitVec.getLsbD_append, BitVec.getLsbD_extractLsb']
  interval_cases j <;> simp

/-- Settles O31: the fields by kind (`laneValue_eq_laneField`), and GE of the two kinds that write it. -/
theorem parallelResults : Obligations.ParallelResults := by
  unfold Obligations.ParallelResults
  intro k o c rn rd rm s hr r
  rw [exec_parallelInstr, parallelOp, finish_conditional_of_pass hr.1]
  split
  next hpc =>
    have hmem : (15 : Reg) ∈ [rd, rn, rm] := by rcases hpc with rfl | rfl | rfl <;> simp
    rw [requireNoPc_of_mem hmem]
    rfl
  next hpc =>
    obtain ⟨hrd, hrn, hrm⟩ : rd ≠ 15 ∧ rn ≠ 15 ∧ rm ≠ 15 := by simpa [not_or] using hpc
    rw [Exec.bind_of_ok ((requireNoPc_ok _).mpr (noPc_three hrd hrn hrm))]
    dsimp only
    rw [LaneOp.run_value]
    by_cases hk : k = .s ∨ k = .u
    · rw [if_pos ((laneSetsGe_iff k).mpr hk), if_pos hk, LaneOp.run_ge hk, ← withField_16_eq_psrGe]
      refine (finish_advance (by simp) hr.2).trans ?_
      simp only [State.setGE, State.setCpsr, State.past, State.result, State.writeReg_cpsr]
      rfl
    · rw [if_neg (mt (laneSetsGe_iff k).mp hk), if_neg hk]
      exact finish_ok (advance_writeReg hr.2)

/-! ### SEL and the sums of differences -/

theorem selectByte_eq (x y : Word) (i : Nat) (hi : i < 4) :
    selectByte s.flagsGE x y i = (if s.cpsr.getLsbD (16 + i) then x else y).extractLsb' (8 * i) 8 := by
  rw [selectByte, State.flagsGE, BitVec.getLsbD_extractLsb', decide_eq_true hi, Bool.true_and]
  split <;> rfl

theorem byteDistance_eq (x y : Byte) : byteDistance x y = (x.toNat - y.toNat : Int).natAbs := by
  unfold byteDistance
  split <;> omega

theorem sumOfDistances_eq (x y : Word) :
    let gap (i : Nat) : Nat := ((x.extractLsb' (8 * i) 8).toNat - (y.extractLsb' (8 * i) 8).toNat : Int).natAbs
    sumOfDistances x y = gap 0 + gap 1 + gap 2 + gap 3 := by
  simp only [sumOfDistances, byteDistance_eq, byteOf]

/-- Settles O32. -/
theorem selectAndSumResults : Obligations.SelectAndSumResults := by
  unfold Obligations.SelectAndSumResults
  intro c rd rn rs rm s hr hrd hrn hrs hrm pick gap sum
  have hsum : BitVec.ofNat 32 (sumOfDistances (s.readReg rm) (s.readReg rs)) = sum :=
    congrArg (BitVec.ofNat 32) (sumOfDistances_eq _ _)
  have hregs := noPc_three hrd hrm hrs
  refine ⟨?_, ?_, ?_⟩
  · change execSel c rn rd rm s = _
    rw [execSel, finish_conditional_of_pass hr.1, Exec.bind_of_ok ((requireNoPc_ok _).mpr (noPc_three hrd hrn hrm))]
    dsimp only
    rw [selectByte_eq _ _ 3 (by omega), selectByte_eq _ _ 2 (by omega), selectByte_eq _ _ 1 (by omega),
      selectByte_eq _ _ 0 (by omega), ofBytes, BitVec.append_assoc, BitVec.append_assoc]
    exact finish_ok (advance_writeReg hr.2)
  · rw [← hsum]
    exact mulPlain_result hr hregs
  · rw [← hsum]
    exact mulPlain_result hr hregs

/-! ### Saturate -/

theorem satOp_result {v : Word} {q : Bool} (hr : s.runs c) (hrd : rd ≠ 15) (hrm : rm ≠ 15) :
    satOp c rd [rm] s v q = .next (s.result rd v (psrSticky s.cpsr q)) :=
  satOp_of_pass hr.2 hr.1 fun h => noPc_two hrd hrm _ h rfl

/-- The operand of R341, exact. -/
theorem satOperand_eq (s : State) (isAsr : Bool) (amount : BitVec 5) (rm : Reg) :
    satOperand s isAsr amount rm =
      if isAsr then (s.readReg rm).toInt / 2 ^ (if amount = 0 then 32 else amount.toNat)
      else (s.readReg rm <<< amount.toNat).toInt := by
  rw [satOperand, asr, apply_ite BitVec.toInt, BitVec.toInt_sshiftRight, Int.shiftRight_eq_div_pow]
  rfl

/-- Settles O34. -/
theorem saturateResults : Obligations.SaturateResults := by
  unfold Obligations.SaturateResults
  intro c sat amount sat4 isAsr rd rm s hr hrd hrm x hi lo signed unsigned
  have hx : satOperand s isAsr amount rm = x := satOperand_eq ..
  have hsat (n : Nat) (e : Int) : signedSat e (n + 1) = signed n e := signedSat_eq_clamp e (n + 1)
  have husat (n : Nat) (e : Int) : unsignedSat e n = unsigned n e := unsignedSat_eq_clamp e n
  have hq (n : Nat) (e : Int) : signedDoesSat e (n + 1) = (signed n e != e) := signedDoesSat_eq_bne e (n + 1)
  have huq (n : Nat) (e : Int) : unsignedDoesSat e n = (unsigned n e != e) := unsignedDoesSat_eq_bne e n
  refine ⟨?_, ?_, ?_, ?_⟩
  · rw [← hq, ← hsat, ← hx]
    exact satOp_result hr hrd hrm
  · rw [← huq, ← husat, ← hx]
    exact satOp_result hr hrd hrm
  · rw [← hq, ← hq, ← hsat, ← hsat, Bool.or_comm]
    exact satOp_result hr hrd hrm
  · rw [← huq, ← huq, ← husat, ← husat, Bool.or_comm]
    exact satOp_result hr hrd hrm

/-! ### Pack, reverse, extend -/

theorem halfOf_ofHalves_true (x y : Half) : halfOf (ofHalves x y) true = x := by
  rw [ofHalves, halfOf, if_pos rfl]
  exact BitVec.extractLsb'_append_eq_left

theorem halfOf_ofHalves_false (x y : Half) : halfOf (ofHalves x y) false = y := by
  rw [ofHalves, halfOf, if_neg Bool.false_ne_true]
  exact BitVec.extractLsb'_append_eq_right

theorem addHalves_append (x : Word) (hi lo : Half) :
    addHalves x (ofHalves hi lo) = (halfOf x true + hi) ++ (halfOf x false + lo) := by
  rw [addHalves, halfOf_ofHalves_true, halfOf_ofHalves_false, ofHalves]

/-- The low half of an arithmetic shift, from the exact quotient. -/
theorem halfOf_asr_false (x : Word) (n : Nat) : halfOf (asr x n) false = BitVec.ofInt 16 (x.toInt / 2 ^ n) := by
  rw [asr_eq_ofInt, halfOf, if_neg Bool.false_ne_true]
  apply BitVec.eq_of_toNat_eq
  rw [BitVec.extractLsb'_toNat, BitVec.toNat_ofInt, BitVec.toNat_ofInt, Nat.shiftRight_zero]
  omega

/-- Settles O35. -/
theorem packReverseExtendResults : Obligations.PackReverseExtendResults := by
  unfold Obligations.PackReverseExtendResults
  intro c sh rot rn rd rm s hr hrd hrm x b y n b0 b2 h
  have hone : ∀ r ∈ [rd, rm], r ≠ 15 := noPc_two hrd hrm
  have hword {v : Word} : mulPlain c rd [rm] s v = .next (s.result rd v s.cpsr) := mulPlain_result hr hone
  refine ⟨?_, ?_, hword, hword, hword, hword, hword, hword, hword, fun hrn => ?_⟩
  · rw [← ofBytes_eq]
    exact hword
  · rw [← ofBytes_eq]
    exact hword
  · have htwo {v : Word} : mulPlain c rd [rn, rm] s v = .next (s.result rd v s.cpsr) :=
      mulPlain_result hr (noPc_three hrd hrn hrm)
    refine ⟨htwo, ?_, hword, ?_, hword, hword, ?_, hword⟩
    · rw [← halfOf_asr_false]
      exact htwo
    · exact (hword (v := addHalves _ (ofHalves _ _))).trans (by rw [addHalves_append]; rfl)
    · exact (hword (v := addHalves _ (ofHalves _ _))).trans (by rw [addHalves_append]; rfl)

end Sys2Proof.Machine
end

section
/-! Branches, the instruction boundary and the return from SWI
(O20, O21, O36, O37). -/

namespace Sys2Proof.Machine

variable {c : Cond} {rd rn rm : Reg} {s t : State}

/-! ### Branches -/

theorem withBit_5_eq_psrThumb (x : Word) (b : Bool) : withBit x 5 b = psrThumb x b := by
  apply BitVec.eq_of_getLsbD_eq
  intro k hk
  simp only [psrThumb, getLsbD_withBit, BitVec.getLsbD_append, BitVec.getLsbD_extractLsb', BitVec.getLsbD_ofBool]
  interval_cases k <;> simp

theorem toWord_branchTarget (s : State) (imm : BitVec 24) (extra : Int) :
    toWord (branchTarget s imm extra) = s.pc + 8 + imm.signExtend 32 * 4 + BitVec.ofInt 32 extra := by
  rw [toWord, branchTarget, BitVec.ofInt_add, BitVec.ofInt_add, BitVec.ofInt_add, BitVec.ofInt_mul,
    BitVec.ofInt_natCast,
    BitVec.ofNat_toNat, BitVec.setWidth_eq]
  rfl

theorem finish_branchTo {target : Int} (h0 : 0 ≤ target) (h : target < 2 ^ 32) :
    finish s (branchTo t target) = .next { t with pc := toWord target } := by
  rw [branchTo, decide_eq_true h0, decide_eq_true h]
  rfl

theorem stopsAs_branchTo {target : Int} (h : target < 0 ∨ 2 ^ 32 ≤ target) :
    stopsAs (finish s (branchTo t target)) .branchRange := by
  have hout : (decide (0 ≤ target) && decide (target < 2 ^ 32)) = false := by
    rw [Bool.and_eq_false_iff, decide_eq_false_iff_not, decide_eq_false_iff_not]
    omega
  rw [branchTo, hout]
  rfl

/-- Settles O36. -/
theorem branchResults : Obligations.BranchResults := by
  unfold Obligations.BranchResults
  intro c h imm s hc reach target linked
  have hzero : branchTarget s imm 0 = reach := show _ + 8 + imm.toInt * 4 + 0 = (_ + 8 + 4 * imm.toInt : Int) by omega
  have hfar : branchTarget s imm (if h then 2 else 0) = reach + (if h then 2 else 0) :=
    congrArg (· + (if h then 2 else 0 : Int)) (show _ + 8 + imm.toInt * 4 = (_ + 8 + 4 * imm.toInt : Int) by omega)
  have htarget : toWord reach = target := by
    rw [← hzero, toWord_branchTarget]
    exact BitVec.add_zero _
  have htargetFar : toWord (reach + (if h then 2 else 0)) = target + (if h then 2 else 0) := by
    rw [← hfar, toWord_branchTarget]
    cases h <;> rfl
  have hb : exec (.b c imm) s = finish s (branchTo s reach) := by
    rw [← hzero]
    exact finish_conditional_of_pass hc
  have hbl : exec (.bl c imm) s = finish s (branchTo linked reach) := by
    rw [← hzero]
    exact finish_conditional_of_pass hc
  have hblx : exec (.blx1 h imm) s = finish s (branchTo (linked.setCpsrBit 5 true) (reach + (if h then 2 else 0))) := by
    rw [← hfar]
    rfl
  refine ⟨fun h0 hlt => ⟨?_, ?_⟩, ⟨fun h0 hlt => ?_, fun hout => ?_⟩, fun hout => ⟨?_, ?_⟩⟩
  · rw [hb, finish_branchTo h0 hlt, htarget]
  · rw [hbl, finish_branchTo h0 hlt, htarget]
  · rw [hblx, finish_branchTo h0 hlt, htargetFar, State.setCpsrBit, withBit_5_eq_psrThumb, State.writeReg_cpsr]
    rfl
  · rw [hblx]
    exact stopsAs_branchTo hout
  · rw [hb]
    exact stopsAs_branchTo hout
  · rw [hbl]
    exact stopsAs_branchTo hout

theorem branchExchange_of_ne {v : Word} (h : v.extractLsb' 0 2 ≠ 2) :
    branchExchange t v = .ok { t with cpsr := psrThumb t.cpsr (v.getLsbD 0), pc := v &&& 0xFFFFFFFE } := by
  rw [branchExchange, if_neg h, State.setCpsrBit, withBit_5_eq_psrThumb]
  rfl

theorem branchExchange_of_eq {v : Word} (h : v.extractLsb' 0 2 = 2) : branchExchange t v =
    unpredictable .halfwordTarget :=
  if_pos h

/-- Settles O37. -/
theorem exchangeResults : Obligations.ExchangeResults := by
  unfold Obligations.ExchangeResults
  intro c rm s hc v gone
  have hbx : exec (.bx c rm) s = finish s (branchExchange s v) := finish_conditional_of_pass hc
  have hblx (hrm : rm ≠ 15) : exec (.blx2 c rm) s = finish s (branchExchange (s.writeReg 14 (s.pc + 4)) v) :=
    (finish_conditional_of_pass hc).trans (congrArg _ (require_bind (bne_iff_ne.mpr hrm)))
  have hbxj (hrm : rm ≠ 15) : exec (.bxj c rm) s =
      finish s (if s.params.je then .error (.refuse .jazelleEnabled) else branchExchange s v) :=
    (finish_conditional_of_pass hc).trans (congrArg _ (require_bind (bne_iff_ne.mpr hrm)))
  refine ⟨fun hv => ⟨?_, fun hrm => ?_, fun hrm hje => ?_⟩, fun hv => ⟨?_, fun hrm => ?_, fun hrm hje => ?_⟩,
    fun hrm hje => ?_⟩
  · rw [hbx, branchExchange_of_ne hv]
    rfl
  · rw [hblx hrm, branchExchange_of_ne hv, State.writeReg_cpsr]
    rfl
  · rw [hbxj hrm, hje, branchExchange_of_ne hv]
    rfl
  · rw [hbx, branchExchange_of_eq hv]
    rfl
  · rw [hblx hrm, branchExchange_of_eq hv]
    rfl
  · rw [hbxj hrm, hje, branchExchange_of_eq hv]
    rfl
  · rw [hbxj hrm, hje]
    rfl

/-! ### The boundary -/

/-- With no hazard of R630 a step is its awake part. -/
theorem step_of_stepAwake (hz : s.bankHazard = .none) (h : stepAwake s = .next t) (ht : t.bankHazard = .none) :
    step s = .next t := by
  rw [step, State.wake_of_none hz, h]
  exact congrArg _ (State.settle_of_not_live (by rw [ht]; decide))

theorem step_takeException {e : Exception} (hz : s.bankHazard = .none) (hopen : s.entryOpen)
    (h : stepAwake s = takeException e s) : step s = .next (enterException e s) :=
  step_of_stepAwake hz (h.trans (takeException_of_entryOpen hopen)) hz

theorem stepAwake_of_pending {e : Exception} (hs : s.supported) (h : pendingInterrupt s = some e) :
    stepAwake s = takeException e s := by
  rw [stepAwake, (stateStop_eq_none s).mpr hs, h]

/-- Settles O20. -/
theorem boundaryExceptions : Obligations.BoundaryExceptions := by
  unfold Obligations.BoundaryExceptions
  intro s hs hz hopen
  refine ⟨fun hline hmask => ?_, fun hfiq hline hmask => ?_, fun hfiq hirq h6 hline hmask => ?_, fun hi harm hmap => ?_⟩
  · refine step_takeException hz hopen (stepAwake_of_pending hs ?_)
    rw [pendingInterrupt, hline, hmask]
    rfl
  · refine step_takeException hz hopen (stepAwake_of_pending hs ?_)
    rw [pendingInterrupt, hfiq, hline, hmask]
    rfl
  · refine step_takeException hz hopen (stepAwake_of_pending hs ?_)
    rw [pendingInterrupt, hfiq, hirq, h6, hline, hmask]
    rfl
  · refine step_takeException hz hopen ((stepAwake_of_inArm hs hi harm).trans ?_)
    rw [runFetched, fetch, hmap]
    rfl

/-- Settles O21. -/
theorem swiReturns : Obligations.SwiReturns := by
  unfold Obligations.SwiReturns
  intro c imm s hc hopen harm hlegal hun
  have hswi : exec (.swi c imm) s = .next (enterException .softwareInterrupt s) :=
    (if_pos hc).trans (takeException_of_entryOpen hopen)
  refine ⟨_, hswi, ?_⟩
  have hcode : psrMode (enterException .softwareInterrupt s).cpsr = Mode.svc.code := by
    change psrMode (entryCpsr s.params .softwareInterrupt s.cpsr) = _
    rw [entryCpsr_eq]
    exact psrMode_psrEntry ..
  have hmode : (enterException .softwareInterrupt s).mode = .svc := by
    rw [State.mode, hcode]
    rfl
  have hspsr : (enterException .softwareInterrupt s).spsr.get (enterException .softwareInterrupt s).mode =
      some s.cpsr := by
    rw [hmode]
    rfl
  have hlink : (enterException .softwareInterrupt s).readReg 14 = s.pc + 4 := by
    rw [State.readReg, hmode]
    change (s.regs.set (.svc 1) (s.pc + 4)).get (.svc 1) = _
    exact (RegFile.get_set ..).trans (if_pos rfl)
  obtain ⟨hT, -, hpc⟩ := harm
  have hret := writeAluPc_of_spsr hspsr hun hlegal (v := (enterException .softwareInterrupt s).readReg 14) <| by
    rw [if_neg (by rw [show s.cpsr.getLsbD 5 = false from hT]; decide), hlink]
    exact fun _ => low_two_add_four hpc
  have hrun := exec_dpOp_pc (rn := 0) (sf := true) .mov (s := enterException .softwareInterrupt s) (c := .al) rfl
    (op := .shiftImm 0 .lsl 14) rfl
  rw [hlink] at hret
  refine Eq.trans ?_ hret
  rw [← hlink]
  exact hrun

end Sys2Proof.Machine
end

section
/-! The addressing modes and the writes of the status registers (O38, O55, O56). -/

namespace Sys2Proof.Machine

variable {c : Cond} {rd rn rm : Reg} {s t : State} {up : Bool}

/-! ### Addressing modes -/

theorem address2_imm {ix : Index2} {k : BitVec 12} (h : Index2.writes ix = true → rn ≠ 15) :
    address2 s ix up rn (.imm k) = .ok (accessOf ix up (s.readReg rn) (k.setWidth 32)) :=
  (address2_ok ..).mpr ⟨(checkIndexing_ok ..).mpr ⟨nofun, h, fun _ => nofun⟩, rfl⟩

theorem checkIndexing_reg {w : Bool} (hrm : rm ≠ 15) (h : w = true → rn ≠ 15 ∧ rn ≠ rm) :
    checkIndexing w rn (some rm) = .ok () :=
  (checkIndexing_ok ..).mpr ⟨fun e => hrm (Option.some.inj e), fun hw => (h hw).1, fun hw e =>
    (h hw).2 (Option.some.inj e).symm⟩

theorem address2_reg {ix : Index2} {amount : BitVec 5} {sh : ShiftType} (hrm : rm ≠ 15)
    (h : Index2.writes ix = true → rn ≠ 15 ∧ rn ≠ rm) :
    address2 s ix up rn (.reg amount sh rm) =
      .ok (accessOf ix up (s.readReg rn) (shifterOperand s (.shiftImm amount sh rm)).1) :=
  (address2_ok ..).mpr ⟨checkIndexing_reg hrm h, rfl⟩

theorem address3_imm {ix : Index3} {j : Index2} {k : BitVec 8} (hj : index3 ix = .ok j)
    (h : Index2.writes j = true → rn ≠ 15) :
    address3 s ix up rn (.imm k) = .ok (accessOf j up (s.readReg rn) (k.setWidth 32)) :=
  (address3_ok ..).mpr ⟨j, hj, (checkIndexing_ok ..).mpr ⟨nofun, h, fun _ => nofun⟩, rfl⟩

theorem address3_reg {ix : Index3} {j : Index2} (hj : index3 ix = .ok j) (hrm : rm ≠ 15)
    (h : Index2.writes j = true → rn ≠ 15 ∧ rn ≠ rm) :
    address3 s ix up rn (.reg rm) = .ok (accessOf j up (s.readReg rn) (s.readReg rm)) :=
  (address3_ok ..).mpr ⟨j, hj, checkIndexing_reg hrm h, rfl⟩

theorem address2_of_error {ix : Index2} {off : Offset2} {e : Stop}
    (h : checkIndexing (Index2.writes ix) rn (offset2Reg off) = .error e) : address2 s ix up rn off = .error e :=
  Exec.bind_of_error h

theorem address3_of_error {ix : Index3} {j : Index2} {off : Offset3} {e : Stop} (hj : index3 ix = .ok j)
    (h : checkIndexing (Index2.writes j) rn (offset3Reg off) = .error e) : address3 s ix up rn off = .error e := by
  change (index3 ix >>= fun ix => checkIndexing (Index2.writes ix) rn (offset3Reg off) >>= fun _ => _) = _
  rw [Exec.bind_of_ok hj]
  exact Exec.bind_of_error h

/-- R404, R407: R15 as the index. -/
theorem checkIndexing_pc_index (w : Bool) (rn : Reg) : checkIndexing w rn (some 15) = unpredictable .r15Operand := rfl

/-- R404, R407: R15 as a base that is written back. -/
theorem checkIndexing_pc_base {i : Option Reg} (hi : i ≠ some 15) : checkIndexing true 15 i =
    unpredictable .pcWriteback := by
  rw [checkIndexing, require_bind (bne_iff_ne.mpr hi)]
  rfl

/-- R404, R407: the index as a base that is written back. -/
theorem checkIndexing_same (h : rm ≠ 15) : checkIndexing true rm (some rm) = unpredictable .sameRegister := by
  have hpc : (!(true && rm == 15)) = true := by rw [Bool.true_and, beq_eq_false_iff_ne.mpr h]; rfl
  have hsame : (!(true && (some rm == some rm))) = false := by rw [beq_self_eq_true]; rfl
  rw [checkIndexing, require_bind (bne_iff_ne.mpr fun e => h (Option.some.inj e)), require_bind hpc, hsame]
  rfl

theorem index3_of_ne {ix : Index3} (h : ix ≠ .postW) :
    ∃ j, index3 ix = .ok j ∧ (ix ≠ .offset → Index2.writes j = true) := by
  cases ix with
  | offset => exact ⟨.offset, rfl, fun h => absurd rfl h⟩
  | pre => exact ⟨.pre, rfl, fun _ => rfl⟩
  | post => exact ⟨.post, rfl, fun _ => rfl⟩
  | postW => exact absurd rfl h

theorem Index2.writes_of_ne {ix : Index2} (h : ix ≠ .offset) : Index2.writes ix = true := by
  cases ix with
  | offset => exact absurd rfl h
  | pre => rfl
  | post => rfl

/-- Settles O38. -/
theorem addressingModes : Obligations.AddressingModes := by
  unfold Obligations.AddressingModes
  intro s up rn rm amount sh k12 k8 n base sum o bytes
  have hk5 : k8.setWidth 32 * 4 = 4 * zext k8 := mul_comm ..
  refine ⟨⟨?_, fun hrn => ⟨?_, ?_, ?_, ?_⟩, ?_⟩, fun hrm => ⟨?_, ?_, fun hrn hne => ⟨?_, ?_, ?_, ?_⟩⟩,
    fun ix => ⟨?_, fun hix => ⟨?_, fun hrm => ⟨?_, ?_⟩⟩⟩, fun ix hpw => ?_, fun off => rfl, rfl, rfl, rfl, rfl, rfl, rfl,
    ?_, ?_, fun hrn => ⟨?_, ?_⟩⟩
  · exact address2_imm (ix := .offset) Bool.noConfusion
  · exact address2_imm (ix := .pre) fun _ => hrn
  · exact address2_imm (ix := .post) fun _ => hrn
  · exact address3_imm (ix := .pre) rfl fun _ => hrn
  · exact address3_imm (ix := .post) rfl fun _ => hrn
  · exact address3_imm (ix := .offset) rfl Bool.noConfusion
  · exact address2_reg (ix := .offset) hrm Bool.noConfusion
  · exact address3_reg (ix := .offset) rfl hrm Bool.noConfusion
  · exact address2_reg (ix := .pre) hrm fun _ => ⟨hrn, hne⟩
  · exact address2_reg (ix := .post) hrm fun _ => ⟨hrn, hne⟩
  · exact address3_reg (ix := .pre) rfl hrm fun _ => ⟨hrn, hne⟩
  · exact address3_reg (ix := .post) rfl hrm fun _ => ⟨hrn, hne⟩
  · exact address2_of_error (checkIndexing_pc_index ..)
  · exact address2_of_error (by rw [Index2.writes_of_ne hix]; exact checkIndexing_pc_base nofun)
  · exact address2_of_error
      (by rw [Index2.writes_of_ne hix]; exact checkIndexing_pc_base fun e => hrm (Option.some.inj e))
  · exact address2_of_error (by rw [Index2.writes_of_ne hix]; exact checkIndexing_same hrm)
  · obtain ⟨j, hj, hw⟩ := index3_of_ne hpw
    refine ⟨address3_of_error hj (checkIndexing_pc_index ..), fun hix => ⟨?_, fun hrm => ⟨?_, ?_⟩⟩⟩
    · exact address3_of_error hj (by rw [hw hix]; exact checkIndexing_pc_base nofun)
    · exact address3_of_error hj (by rw [hw hix]; exact checkIndexing_pc_base fun e => hrm (Option.some.inj e))
    · exact address3_of_error hj (by rw [hw hix]; exact checkIndexing_same hrm)
  · exact (address5_ok ..).mpr ⟨Bool.noConfusion, by rw [hk5]; rfl⟩
  · exact (address5_ok ..).mpr ⟨Bool.noConfusion, rfl⟩
  · exact (address5_ok ..).mpr ⟨fun _ => hrn, by rw [hk5]; rfl⟩
  · exact (address5_ok ..).mpr ⟨fun _ => hrn, by rw [hk5]; rfl⟩

/-! ### MSR (R502) -/

/-- The bytes a field mask selects, as a joined word. -/
theorem byteMask_eq (mask : BitVec 4) :
    byteMask mask = BitVec.fill 8 (mask.getLsbD 3) ++ (BitVec.fill 8 (mask.getLsbD 2) ++
      (BitVec.fill 8 (mask.getLsbD 1) ++ BitVec.fill 8 (mask.getLsbD 0))) := by
  have h : ∀ b0 b1 b2 b3 : Bool,
      (if b0 then 0x000000FF else 0 : Word) ||| (if b1 then 0x0000FF00 else 0) ||| (if b2 then 0x00FF0000 else 0) |||
        (if b3 then 0xFF000000 else 0) =
      BitVec.fill 8 b3 ++ (BitVec.fill 8 b2 ++ (BitVec.fill 8 b1 ++ BitVec.fill 8 b0)) := by decide
  exact h ..

theorem privileged_eq (m : Mode) : m.privileged = decide (m ≠ .usr) := by cases m <;> rfl

theorem msrCpsrMask_eq (s : State) (mask : BitVec 4) :
    msrCpsrMask s mask = byteMask mask &&& (if s.mode = .usr then (psrMasks s.arch).user
      else (psrMasks s.arch).user ||| (psrMasks s.arch).priv) := by
  rw [msrCpsrMask, privileged_eq]
  by_cases h : s.mode = .usr
  · rw [if_pos h, if_neg (by simp [h])]
  · rw [if_neg h, if_pos (by simp [h])]

/-- What an MSR of `operand` answers, for the CPSR (`i`) and for the SPSR (`j`): the shape of R502. -/
theorem msrOp_results {mask : BitVec 4} {operand : Word} {i j : Instr} (hpc : s.pc.toNat + 4 < 2 ^ 32)
    (hi : exec i s = finish s (msrOp s false mask operand)) (hj : exec j s = finish s (msrOp s true mask operand)) :
    let table := psrMasks s.arch
    let saved := msrSpsrMask s mask
    let new := underMask s.cpsr operand (msrCpsrMask s mask)
    if operand &&& table.unalloc ≠ 0 then stopsAs (exec i s) .reservedPsrBits ∧ stopsAs (exec j s) .reservedPsrBits
    else
      (if s.mode ≠ .usr ∧ operand &&& table.state ≠ 0 then stopsAs (exec i s) .stateBits
       else if (Mode.ofCode (psrMode new)).isSome then exec i s = .next { s with cpsr := new, pc := s.pc + 4 }
       else stopsAs (exec i s) .reservedMode) ∧
      (s.spsr.get s.mode = none → stopsAs (exec j s) .noSpsr) ∧
      (∀ old, s.spsr.get s.mode = some old →
        let kept := underMask old operand saved
        if psrMode saved = 0 ∨ (Mode.ofCode (psrMode kept)).isSome = true then
          exec j s = .next { s with spsr := s.spsr.set s.mode kept, pc := s.pc + 4 }
        else stopsAs (exec j s) .reservedMode) := by
  dsimp only
  rw [hi, hj]
  unfold msrOp
  split
  next hun =>
    have hbit : (operand &&& (psrMasks s.arch).unalloc == 0) = false := beq_eq_false_iff_ne.mpr hun
    exact ⟨stopsAs_finish (require_bind_of_not hbit), stopsAs_finish (require_bind_of_not hbit)⟩
  next hun =>
    rw [require_bind (beq_iff_eq.mpr (not_not.mp hun)), require_bind (beq_iff_eq.mpr (not_not.mp hun)),
      if_neg Bool.false_ne_true, if_pos rfl]
    refine ⟨?_, fun hnone => stopsAs_finish (Exec.bind_of_error (currentSpsr_of_none hnone)), fun old hold => ?_⟩
    · have hstate : (s.mode.privileged && operand &&& (psrMasks s.arch).state != 0) = true ↔
          s.mode ≠ .usr ∧ operand &&& (psrMasks s.arch).state ≠ 0 := by
        rw [privileged_eq, Bool.and_eq_true, decide_eq_true_eq, bne_iff_ne]
      unfold msrCpsr
      split
      next hst => exact stopsAs_finish (require_bind_of_not (by rw [hstate.mpr hst]; rfl))
      next hst =>
        rw [require_bind (by rw [Bool.eq_false_iff.mpr (mt hstate.mp hst)]; rfl)]
        dsimp only
        split
        next hmode =>
          rw [require_bind hmode]
          exact finish_ok ((advance_ok ..).mpr ⟨hpc, rfl⟩)
        next hmode => exact stopsAs_finish (require_bind_of_not (Bool.eq_false_iff.mpr hmode))
    · unfold msrSpsr
      rw [Exec.bind_of_ok ((currentSpsr_ok s old).mpr hold)]
      dsimp only
      split
      next hmode =>
        rw [require_bind (by rw [Bool.or_eq_true, beq_iff_eq]; exact hmode)]
        exact finish_ok ((advance_ok ..).mpr ⟨hpc, rfl⟩)
      next hmode =>
        refine stopsAs_finish (require_bind_of_not (Bool.eq_false_iff.mpr fun h => hmode ?_))
        rwa [Bool.or_eq_true, beq_iff_eq] at h

/-- Settles O55. -/
theorem msrResults : Obligations.MsrResults := by
  unfold Obligations.MsrResults
  intro c mask rot imm rm s hr table bytes bits saved claim
  have hbits : msrCpsrMask s mask = bits := by rw [msrCpsrMask_eq, byteMask_eq]
  have hsaved : msrSpsrMask s mask = saved := by rw [msrSpsrMask, byteMask_eq]
  have hclaim {operand : Word} {i j : Instr} (hi : exec i s = finish s (msrOp s false mask operand))
      (hj : exec j s = finish s (msrOp s true mask operand)) : claim operand i j := by
    have h := msrOp_results hr.2 hi hj
    rw [hbits, hsaved] at h
    exact h
  refine ⟨hclaim (finish_conditional_of_pass hr.1) (finish_conditional_of_pass hr.1), fun hrm => hclaim ?_ ?_⟩
  · exact (finish_conditional_of_pass hr.1).trans (congrArg _ (require_bind (bne_iff_ne.mpr hrm)))
  · exact (finish_conditional_of_pass hr.1).trans (congrArg _ (require_bind (bne_iff_ne.mpr hrm)))

/-! ### CPS and SETEND (R505, R506) -/

theorem getLsbD_one_iff : ∀ m : BitVec 2, m.getLsbD 1 = true ↔ 2 ≤ m.toNat := by decide

theorem cpsResult_eq (x : Word) (imod : BitVec 2) (mmod a ib f : Bool) (mode : BitVec 5) :
    let bit (named : Bool) (k : Nat) : BitVec 1 :=
      BitVec.ofBool (if 2 ≤ imod.toNat ∧ named = true then imod.getLsbD 0 else x.getLsbD k)
    cpsResult x imod mmod a ib f mode = x.extractLsb' 9 23 ++ (bit a 8 ++ (bit ib 7 ++ (bit f 6 ++ (x.extractLsb' 5 1 ++
      (if mmod then mode else x.extractLsb' 0 5))))) := by
  have hset (y : Word) (k : Nat) (named : Bool) (j : Nat) (hk : k < 32) :
      (if (imod.getLsbD 1 && named) = true then withBit y k (imod.getLsbD 0) else y).getLsbD j =
        if k = j then (if 2 ≤ imod.toNat ∧ named = true then imod.getLsbD 0 else y.getLsbD j) else y.getLsbD j := by
    have hcond : (imod.getLsbD 1 && named) = true ↔ 2 ≤ imod.toNat ∧ named = true := by
      rw [Bool.and_eq_true, getLsbD_one_iff]
    by_cases h : 2 ≤ imod.toNat ∧ named = true
    · rw [if_pos (hcond.mpr h), if_pos h, getLsbD_withBit, decide_eq_true hk, Bool.true_and]
    · rw [if_neg (mt hcond.mp h), if_neg h, ite_self]
  apply BitVec.eq_of_getLsbD_eq
  intro k hk
  cases mmod
  · simp only [cpsResult, if_neg Bool.false_ne_true, hset _ _ _ _ (by decide : 8 < 32),
      hset _ _ _ _ (by decide : 7 < 32),
      hset _ _ _ _ (by decide : 6 < 32), BitVec.getLsbD_append, BitVec.getLsbD_extractLsb', BitVec.getLsbD_ofBool]
    interval_cases k <;> simp
  · simp only [cpsResult, if_true, getLsbD_withField _ _ _ _ hk, hset _ _ _ _ (by decide : 8 < 32),
      hset _ _ _ _ (by decide : 7 < 32), hset _ _ _ _ (by decide : 6 < 32), BitVec.getLsbD_append,
      BitVec.getLsbD_extractLsb', BitVec.getLsbD_ofBool]
    interval_cases k <;> simp

theorem withBit_9_eq (x : Word) (e : Bool) : withBit x 9 e =
    x.extractLsb' 10 22 ++ (BitVec.ofBool e ++ x.extractLsb' 0 9) := by
  apply BitVec.eq_of_getLsbD_eq
  intro k hk
  simp only [getLsbD_withBit, BitVec.getLsbD_append, BitVec.getLsbD_extractLsb', BitVec.getLsbD_ofBool]
  interval_cases k <;> simp

theorem cpsAllowed_eq (imod : BitVec 2) (mmod a ib f : Bool) (mode : BitVec 5) :
    cpsAllowed imod mmod a ib f mode =
      ((if 2 ≤ imod.toNat then a || ib || f else imod = 0 && mmod && !(a || ib || f)) && (mmod || mode = 0)) := by
  simp only [cpsAllowed, getLsbD_one_iff]
  rfl

/-- Settles O56. -/
theorem changeStateResults : Obligations.ChangeStateResults := by
  unfold Obligations.ChangeStateResults
  intro imod mmod a ib f e mode s hpc x change some bit new meaning
  have hallowed : cpsAllowed imod mmod a ib f mode = meaning := cpsAllowed_eq ..
  have hnew : cpsResult s.cpsr imod mmod a ib f mode = new := cpsResult_eq ..
  have hcps (hm : meaning = true) : exec (.cps imod mmod a ib f mode) s =
      finish s (if s.mode.privileged then (do
        require (!mmod || (Mode.ofCode mode).isSome) .reservedMode
        advance (s.setCpsr (cpsResult s.cpsr imod mmod a ib f mode))) else advance s) :=
    congrArg (finish s) (require_bind (hallowed.trans hm))
  refine ⟨fun hm => ?_, fun hm => ⟨fun husr => ?_, fun husr hmode => ?_, fun husr hmm hmode => ?_⟩, ?_⟩
  · exact stopsAs_finish (require_bind_of_not (hallowed.trans hm))
  · rw [hcps hm, husr]
    exact finish_ok ((advance_ok ..).mpr ⟨hpc, rfl⟩)
  · have hok : (!mmod || (Mode.ofCode mode).isSome) = true := by
      cases hmm : mmod
      · rfl
      · exact hmode hmm
    rw [hcps hm, privileged_eq, decide_eq_true husr, if_pos rfl, require_bind hok, hnew]
    exact finish_ok ((advance_ok ..).mpr ⟨hpc, rfl⟩)
  · rw [hcps hm, privileged_eq, decide_eq_true husr, if_pos rfl]
    exact stopsAs_finish (require_bind_of_not (by rw [hmm, hmode]; rfl))
  · change if _ then finish s (if _ then _ else _) = _ else finish s (if _ then _ else _) = _
    split
    · rfl
    · rw [State.setCpsrBit, withBit_9_eq]
      exact finish_ok ((advance_ok ..).mpr ⟨hpc, rfl⟩)

end Sys2Proof.Machine
end

section
/-! The single loads and stores: what runs after their checks, and what they answer (O39 to O45). -/

namespace Sys2Proof.Machine

variable {c : Cond} {rd rn : Reg} {s t : State} {up : Bool} {acc : Access} {a v : Word}

/-! ### A word and its bytes -/

theorem joined_bytes (b3 b2 b1 b0 : Byte) (k : Nat) (hk : k < 4) :
    (b3 ++ (b2 ++ (b1 ++ b0)) : Word).extractLsb' (8 * k) 8 = [b0, b1, b2, b3][k] := by
  apply BitVec.eq_of_getLsbD_eq
  intro j hj
  rw [BitVec.getLsbD_extractLsb', decide_eq_true hj, Bool.true_and]
  simp only [BitVec.getLsbD_append]
  interval_cases k
  all_goals
    simp only [List.getElem_cons_zero, List.getElem_cons_succ]
    interval_cases j <;> rfl

theorem bytes_joined (v : Word) :
    v.extractLsb' 24 8 ++ (v.extractLsb' 16 8 ++ (v.extractLsb' 8 8 ++ v.extractLsb' 0 8)) = v := by
  apply BitVec.eq_of_getLsbD_eq
  intro j hj
  simp only [BitVec.getLsbD_append, BitVec.getLsbD_extractLsb']
  interval_cases j <;> rfl

/-- The byte of `v` that byte order places `k` bytes above the address of `v` (R92). -/
def byteAtOffset (big : Bool) (v : Word) (k : Nat) : Byte := v.extractLsb' (8 * (if big then 3 - k else k)) 8

/-- A word is read where its four bytes are. -/
theorem wordAt_iff (s : State) (a v : Word) :
    s.wordAt a = some v ↔ ∀ k < 4, s.dataByte (a + BitVec.ofNat 32 k) = some (byteAtOffset s.bigEndianData v k) := by
  have hzero : a + BitVec.ofNat 32 0 = a := BitVec.add_zero a
  constructor
  · intro h k hk
    obtain ⟨b0, b1, b2, b3, h0, h1, h2, h3, hv⟩ := (memWord_ok ..).mp ((memWord_iff ..).mpr h)
    rw [memByte_iff] at h0 h1 h2 h3
    rw [wordOfBytes] at hv
    rw [byteAtOffset, hv]
    simp only [BitVec.append_assoc, BitVec.cast_eq]
    cases s.bigEndianData
    · rw [if_neg Bool.false_ne_true, if_neg Bool.false_ne_true, joined_bytes _ _ _ _ k hk]
      interval_cases k
      · rw [hzero]; exact h0
      · exact h1
      · exact h2
      · exact h3
    · rw [if_pos rfl, if_pos rfl, joined_bytes _ _ _ _ (3 - k) (by omega)]
      interval_cases k
      · rw [hzero]; exact h0
      · exact h1
      · exact h2
      · exact h3
  · intro h
    have h0 := h 0 (by decide)
    rw [hzero] at h0
    refine (memWord_iff ..).mp
      ((memWord_ok ..).mpr ⟨_, _, _, _, (memByte_iff ..).mpr h0, (memByte_iff ..).mpr (h 1 (by decide)),
      (memByte_iff ..).mpr (h 2 (by decide)), (memByte_iff ..).mpr (h 3 (by decide)), ?_⟩)
    rw [wordOfBytes]
    simp only [BitVec.append_assoc, BitVec.cast_eq]
    cases s.bigEndianData
    · exact (bytes_joined v).symm
    · exact (bytes_joined v).symm

theorem mappedBytes_of_wordAt (h : s.wordAt a = some v) : s.mappedBytes a 4 = true :=
  (mappedBytes_iff ..).mpr fun k hk => (dataByte_some ((wordAt_iff s a v).mp h k hk)).1

theorem mappedBytes_add (s : State) (a : Word) (n : Nat) :
    s.mappedBytes a (4 + n) = true ↔ s.mappedBytes a 4 = true ∧ s.mappedBytes (a + 4) n = true := by
  simp only [mappedBytes_iff, Word.add_four_add_ofNat]
  refine ⟨fun h => ⟨fun k hk => h k (by omega), fun k hk => h (4 + k) (by omega)⟩, fun ⟨h, h'⟩ k hk => ?_⟩
  by_cases h4 : k < 4
  · exact h k h4
  · have := h' (k - 4) (by omega)
    rwa [Nat.add_sub_cancel' (by omega)] at this

/-! ### What runs after the checks of a load or store -/

section Bodies
variable {ix : Index2} {ix3 : Index3} {off : Offset2} {off3 : Offset3}

theorem notSame_of (w : Bool) (h : w = true → rd ≠ rn) : (!(w && rd == rn)) = true := by
  cases w with
  | false => rfl
  | true => exact (Bool.not_eq_true' _).mpr (beq_eq_false_iff_ne.mpr (h rfl))

theorem checkDest_bind {w : Bool} {f : Unit → Exec State} (h15 : rd ≠ 15) (h : w = true → rd ≠ rn) :
    (checkDest w rn rd >>= f) = f () := by
  refine Exec.bind_of_ok ?_
  rw [checkDest, require_bind (bne_iff_ne.mpr h15)]
  exact (require_ok ..).mpr (notSame_of w h)

theorem checkDouble_bind {w : Bool} {f : Unit → Exec State} (h0 : rd.getLsbD 0 = false) (h14 : rd ≠ 14)
    (h : w = true → rn ≠ rd ∧ rn ≠ rd + 1) : (checkDouble w rn rd >>= f) = f () := by
  have hsame : (!(w && (rn == rd || rn == rd + 1))) = true := by
    cases w with
    | false => rfl
    | true => rw [beq_eq_false_iff_ne.mpr (h rfl).1, beq_eq_false_iff_ne.mpr (h rfl).2]; rfl
  refine Exec.bind_of_ok ?_
  rw [checkDouble, h0, if_neg Bool.false_ne_true, require_bind (bne_iff_ne.mpr h14)]
  exact (require_ok ..).mpr hsame

/-- LDR after its checks. -/
theorem exec_ldr (hc : conditionPassed c s = true) (hacc : address2 s ix up rn off = .ok acc)
    (h : Index2.writes ix = true → rd ≠ rn) :
    exec (.ldr c ix up rn rd off) s = finish s
      (if rd = 15 && !s.alignA && low2 acc.address != 0 then unpredictable .misaligned
       else loadWord s acc.address >>= fun data =>
         if rd = 15 then loadPc (s.writeBack rn acc.writeback) data else endLoad s rn rd acc data) :=
  (finish_conditional_of_pass hc).trans
    (congrArg _ ((require_bind (notSame_of _ h)).trans (Exec.bind_of_ok hacc)))

theorem exec_ldr_reg (hc : conditionPassed c s = true) (hacc : address2 s ix up rn off = .ok acc)
    (h : Index2.writes ix = true → rd ≠ rn) (h15 : rd ≠ 15) :
    exec (.ldr c ix up rn rd off) s = finish s (loadWord s acc.address >>= endLoad s rn rd acc) := by
  rw [exec_ldr hc hacc h, if_neg (by simp only [decide_eq_false h15, Bool.false_and]; decide)]
  simp only [if_neg h15]

theorem exec_ldrt (hc : conditionPassed c s = true) (hacc : address2 s .post up rn off = .ok acc) (h : rd ≠ rn)
    (h15 : rd ≠ 15) :
    exec (.ldrt c up rn rd off) s = finish s (loadWord s acc.address >>= endLoad s rn rd acc) :=
  (finish_conditional_of_pass hc).trans
    (congrArg _ ((checkDest_bind h15 fun _ => h).trans (Exec.bind_of_ok hacc)))

theorem exec_ldrb (hc : conditionPassed c s = true) (hacc : address2 s ix up rn off = .ok acc)
    (h : Index2.writes ix = true → rd ≠ rn) (h15 : rd ≠ 15) :
    exec (.ldrb c ix up rn rd off) s = finish s (loadByteTo s rn rd acc zext) :=
  (finish_conditional_of_pass hc).trans
    (congrArg _ ((checkDest_bind h15 h).trans (Exec.bind_of_ok hacc)))

theorem exec_ldrbt (hc : conditionPassed c s = true) (hacc : address2 s .post up rn off = .ok acc) (h : rd ≠ rn)
    (h15 : rd ≠ 15) : exec (.ldrbt c up rn rd off) s = finish s (loadByteTo s rn rd acc zext) :=
  (finish_conditional_of_pass hc).trans
    (congrArg _ ((checkDest_bind h15 fun _ => h).trans (Exec.bind_of_ok hacc)))

theorem exec_ldrsb (hc : conditionPassed c s = true) (hacc : address3 s ix3 up rn off3 = .ok acc)
    (h : Index3.writes ix3 = true → rd ≠ rn) (h15 : rd ≠ 15) :
    exec (.ldrsb c ix3 up rn rd off3) s = finish s (loadByteTo s rn rd acc sext) :=
  (finish_conditional_of_pass hc).trans
    (congrArg _ ((checkDest_bind h15 h).trans (Exec.bind_of_ok hacc)))

theorem exec_ldrh (hc : conditionPassed c s = true) (hacc : address3 s ix3 up rn off3 = .ok acc)
    (h : Index3.writes ix3 = true → rd ≠ rn) (h15 : rd ≠ 15) :
    exec (.ldrh c ix3 up rn rd off3) s = finish s (loadHalfTo s rn rd acc zext) :=
  (finish_conditional_of_pass hc).trans
    (congrArg _ ((checkDest_bind h15 h).trans (Exec.bind_of_ok hacc)))

theorem exec_ldrsh (hc : conditionPassed c s = true) (hacc : address3 s ix3 up rn off3 = .ok acc)
    (h : Index3.writes ix3 = true → rd ≠ rn) (h15 : rd ≠ 15) :
    exec (.ldrsh c ix3 up rn rd off3) s = finish s (loadHalfTo s rn rd acc sext) :=
  (finish_conditional_of_pass hc).trans
    (congrArg _ ((checkDest_bind h15 h).trans (Exec.bind_of_ok hacc)))

/-- LDRD after its checks. -/
theorem exec_ldrd (hc : conditionPassed c s = true) (hacc : address3 s ix3 up rn off3 = .ok acc)
    (h0 : rd.getLsbD 0 = false) (h14 : rd ≠ 14) (h : Index3.writes ix3 = true → rn ≠ rd ∧ rn ≠ rd + 1)
    (hpair : offsetInPair rd off3 = false) :
    exec (.ldrd c ix3 up rn rd off3) s =
      finish s (loadDouble s acc.address >>= fun p => endLoad (s.writeReg rd p.1) rn (rd + 1) acc p.2) :=
  (finish_conditional_of_pass hc).trans (congrArg _ ((checkDouble_bind h0 h14 h).trans
    ((require_bind (by rw [hpair]; rfl)).trans (Exec.bind_of_ok hacc))))

theorem exec_str (hc : conditionPassed c s = true) (hacc : address2 s ix up rn off = .ok acc)
    (h : Index2.writes ix = true → rd ≠ rn) :
    exec (.str c ix up rn rd off) s = finish s (storeWordFrom s rn rd acc) :=
  (finish_conditional_of_pass hc).trans
    (congrArg _ ((require_bind (notSame_of _ h)).trans (Exec.bind_of_ok hacc)))

theorem exec_strt (hc : conditionPassed c s = true) (hacc : address2 s .post up rn off = .ok acc) (h : rd ≠ rn) :
    exec (.strt c up rn rd off) s = finish s (storeWordFrom s rn rd acc) :=
  (finish_conditional_of_pass hc).trans
    (congrArg _ ((require_bind (bne_iff_ne.mpr h)).trans (Exec.bind_of_ok hacc)))

theorem exec_strb (hc : conditionPassed c s = true) (hacc : address2 s ix up rn off = .ok acc)
    (h : Index2.writes ix = true → rd ≠ rn) (h15 : rd ≠ 15) :
    exec (.strb c ix up rn rd off) s = finish s (storeByteFrom s rn rd acc) :=
  (finish_conditional_of_pass hc).trans
    (congrArg _ ((checkDest_bind h15 h).trans (Exec.bind_of_ok hacc)))

theorem exec_strbt (hc : conditionPassed c s = true) (hacc : address2 s .post up rn off = .ok acc) (h : rd ≠ rn)
    (h15 : rd ≠ 15) : exec (.strbt c up rn rd off) s = finish s (storeByteFrom s rn rd acc) :=
  (finish_conditional_of_pass hc).trans
    (congrArg _ ((checkDest_bind h15 fun _ => h).trans (Exec.bind_of_ok hacc)))

/-- STRH after its checks. -/
theorem exec_strh (hc : conditionPassed c s = true) (hacc : address3 s ix3 up rn off3 = .ok acc)
    (h : Index3.writes ix3 = true → rd ≠ rn) (h15 : rd ≠ 15) :
    exec (.strh c ix3 up rn rd off3) s = finish s (checkHalfStore s acc.address >>= fun _ =>
      memWrite s acc.address (halfBytes s.bigEndianData (halfOf (s.readReg rd) false)) >>= fun t =>
        endStore t rn acc) :=
  (finish_conditional_of_pass hc).trans
    (congrArg _ ((checkDest_bind h15 h).trans (Exec.bind_of_ok hacc)))

/-- STRD after its checks. -/
theorem exec_strd (hc : conditionPassed c s = true) (hacc : address3 s ix3 up rn off3 = .ok acc)
    (h0 : rd.getLsbD 0 = false) (h14 : rd ≠ 14) (h : Index3.writes ix3 = true → rn ≠ rd ∧ rn ≠ rd + 1) :
    exec (.strd c ix3 up rn rd off3) s = finish s (checkDoubleAligned s acc.address >>= fun _ =>
      checkWords s acc.address 2 >>= fun _ =>
        endStore (s.storeWords acc.address [s.readReg rd, s.readReg (rd + 1)]) rn acc) :=
  (finish_conditional_of_pass hc).trans (congrArg _ ((checkDouble_bind h0 h14 h).trans
    (Exec.bind_of_ok hacc)))

end Bodies

/-! ### The ends of a load and of a store -/

theorem finish_endLoad (hpc : s.pc.toNat + 4 < 2 ^ 32) (ht : t.pc = s.pc) :
    finish s (endLoad t rn rd acc v) = .next ((t.writeBack rn acc.writeback).writeReg rd v).past :=
  finish_advance (by rw [State.writeReg_pc, State.writeBack_pc, ht]) hpc

theorem finish_endStore (hpc : s.pc.toNat + 4 < 2 ^ 32) (ht : t.pc = s.pc) :
    finish s (endStore t rn acc) = .next (t.writeBack rn acc.writeback).past :=
  finish_advance (by rw [State.writeBack_pc, ht]) hpc

/-! ### Alignment -/

theorem low2_toNat (a : Word) : (low2 a).toNat = a.toNat % 4 := by
  rw [low2, BitVec.extractLsb'_toNat, Nat.shiftRight_zero]

theorem and_wordMask_of_low2 (h : low2 a = 0) : a &&& 0xFFFFFFFC = a := by
  have hbit (j : Nat) (hj : j < 2) : a.getLsbD j = false := by
    have := congrArg (fun x => BitVec.getLsbD x j) h
    rwa [low2, BitVec.getLsbD_extractLsb', decide_eq_true hj, Bool.true_and, Nat.zero_add, BitVec.ofNat_eq_ofNat,
      BitVec.getLsbD_zero] at this
  apply BitVec.eq_of_getLsbD_eq
  intro k hk
  rw [BitVec.getLsbD_and]
  interval_cases k
  on_goal 1 => rw [hbit 0 (by decide)]; rfl
  on_goal 1 => rw [hbit 1 (by decide)]; rfl
  all_goals exact Bool.and_true _

theorem loadWord_of_wordAt (h : low2 a = 0 ∨ (s.alignA = false ∧ s.alignU = true)) (hv : s.wordAt a = some v) :
    loadWord s a = .ok v := by
  have hm := (memWord_iff s a v).mpr hv
  by_cases h0 : low2 a = 0
  · exact (loadWord_ok ..).mpr (.inl ⟨h0, hm⟩)
  · obtain ⟨hA, hU⟩ := h.resolve_left h0
    exact (loadWord_ok ..).mpr (.inr (.inl ⟨h0, hA, hU, hm⟩))

/-- R101: with U = A = 0 the word below the address, rotated. -/
theorem loadWord_rotated (hA : s.alignA = false) (hU : s.alignU = false) (hv : s.wordAt (a &&& 0xFFFFFFFC) = some v) :
    loadWord s a = .ok (v.rotateRight (8 * (a.toNat % 4))) := by
  have hm := (memWord_iff ..).mpr hv
  rw [← low2_toNat]
  by_cases h0 : low2 a = 0
  · rw [and_wordMask_of_low2 h0] at hm
    rw [h0]
    refine (loadWord_ok ..).mpr (.inl ⟨h0, hm.trans (congrArg _ ?_)⟩)
    change v = v.rotateRight 0
    rw [BitVec.rotateRight_def, Nat.zero_mod, BitVec.ushiftRight_zero, Nat.sub_zero,
      BitVec.shiftLeft_eq_zero le_rfl, BitVec.or_zero]
  · exact (loadWord_ok ..).mpr (.inr (.inr ⟨h0, hA, hU, v, hm, rfl⟩))

theorem doubleMisaligned_eq (s : State) (a : Word) :
    doubleMisaligned s a = decide (a.toNat % (if s.alignU then 4 else 8) ≠ 0) := by
  have h2 : a.getLsbD 2 = decide (a.toNat / 4 % 2 = 1) := Nat.testBit_eq_decide_div_mod_eq
  have hlow : (low2 a != 0) = decide (a.toNat % 4 ≠ 0) := by
    rw [Bool.eq_iff_iff, bne_iff_ne, decide_eq_true_eq]
    exact not_congr (low_two_eq_zero_iff a)
  rw [doubleMisaligned, hlow, h2, Bool.eq_iff_iff, Bool.or_eq_true, Bool.and_eq_true, decide_eq_true_eq,
    decide_eq_true_eq,
    decide_eq_true_eq, Bool.not_eq_true']
  cases s.alignU
  · simp only [Bool.false_eq_true, if_false, true_and]
    omega
  · rw [if_pos rfl]
    simp

/-! ### Loads -/

/-- Settles O39. -/
theorem wordLoadResults : Obligations.WordLoadResults := by
  unfold Obligations.WordLoadResults
  intro c ix up rn rd off s hr h15 acc hacc loaded
  have hend {v : Word} (hv : loadWord s acc.address = .ok v) :
      finish s (loadWord s acc.address >>= endLoad s rn rd acc) = .next (loaded v) := by
    rw [Exec.bind_of_ok hv]
    exact finish_endLoad hr.2 rfl
  have both {v : Word} (hv : loadWord s acc.address = .ok v) :
      ((Index2.writes ix = true → rd ≠ rn) → exec (.ldr c ix up rn rd off) s = .next (loaded v)) ∧
      (ix = .post → rd ≠ rn → exec (.ldrt c up rn rd off) s = .next (loaded v)) := by
    refine ⟨fun h => (exec_ldr_reg hr.1 hacc h h15).trans (hend hv), fun hix h => ?_⟩
    subst hix
    exact (exec_ldrt hr.1 hacc h h15).trans (hend hv)
  exact ⟨fun v hv h => both (loadWord_of_wordAt h hv), fun v hv hA hU => both (loadWord_rotated hA hU hv)⟩

theorem writesPc_ne (hacc : address2 s ix up rn off = .ok acc) (h : Index2.writes ix = true) : (15 : Reg) ≠ rn :=
  (((checkIndexing_ok ..).mp ((address2_ok ..).mp hacc).1).2.1 h).symm

/-- Settles O40. -/
theorem loadPcResults : Obligations.LoadPcResults := by
  unfold Obligations.LoadPcResults
  intro c ix up rn off s hc acc hacc based
  have hexec := exec_ldr hc hacc (writesPc_ne hacc)
  refine ⟨fun h0 hA => ?_, fun v hv h0 => ?_⟩
  · rw [hexec, if_pos (by rw [hA, bne_iff_ne.mpr h0]; rfl)]
    rfl
  · have hload : exec (.ldr c ix up rn 15 off) s = finish s (loadPc based v) := by
      rw [hexec, if_neg (by rw [h0]; simp), Exec.bind_of_ok (loadWord_of_wordAt (.inl h0) hv)]
      rfl
    have hcpsr : based.cpsr = s.cpsr := State.writeBack_cpsr ..
    have harch : based.arch = s.arch := congrArg Params.arch (State.writeBack_params ..)
    refine ⟨fun h5 h2 => ?_, fun h5 h2 => ?_, fun h5 => ?_⟩
    · rw [hload, loadPc, harch, h5, if_pos rfl, branchExchange_of_ne h2, hcpsr]
      rfl
    · rw [hload, loadPc, harch, h5, if_pos rfl, branchExchange_of_eq h2]
      rfl
    · rw [hload, loadPc, harch, h5]
      rfl

theorem finish_loadByteTo {b : Byte} {extend : Byte → Word} (hpc : s.pc.toNat + 4 < 2 ^ 32)
    (hb : s.dataByte acc.address = some b) :
    finish s (loadByteTo s rn rd acc extend) = .next ((s.writeBack rn acc.writeback).writeReg rd (extend b)).past := by
  rw [loadByteTo, Exec.bind_of_ok ((memByte_iff ..).mpr hb)]
  exact finish_endLoad hpc rfl

theorem finish_loadHalfTo {h : Half} {extend : Half → Word} (hpc : s.pc.toNat + 4 < 2 ^ 32)
    (hal : acc.address.getLsbD 0 = false ∨ (s.alignA = false ∧ s.alignU = true)) (hh : s.halfAt acc.address = some h) :
    finish s (loadHalfTo s rn rd acc extend) = .next ((s.writeBack rn acc.writeback).writeReg rd (extend h)).past := by
  rw [loadHalfTo, Exec.bind_of_ok ((loadHalf_ok ..).mpr ⟨hal, (memHalf_iff ..).mpr hh⟩)]
  exact finish_endLoad hpc rfl

/-- Settles O41. -/
theorem narrowLoadResults : Obligations.NarrowLoadResults := by
  unfold Obligations.NarrowLoadResults
  intro c up rn rd s hr h15
  refine ⟨fun ix off acc hacc b hb => ⟨fun h => ?_, fun hix h => ?_⟩, fun ix off acc hacc h => ⟨fun b hb => ?_,
    fun x hx hal => ⟨?_, ?_⟩⟩⟩
  · exact (exec_ldrb hr.1 hacc h h15).trans (finish_loadByteTo hr.2 hb)
  · subst hix
    exact (exec_ldrbt hr.1 hacc h h15).trans (finish_loadByteTo hr.2 hb)
  · exact (exec_ldrsb hr.1 hacc h h15).trans (finish_loadByteTo hr.2 hb)
  · exact (exec_ldrh hr.1 hacc h h15).trans (finish_loadHalfTo hr.2 hal hx)
  · exact (exec_ldrsh hr.1 hacc h h15).trans (finish_loadHalfTo hr.2 hal hx)

/-! ### Stores -/

theorem storeWordAddress_of (h : low2 a = 0 ∨ s.alignA = false) :
    storeWordAddress s a = .ok (if s.alignU then a else a &&& 0xFFFFFFFC) := by
  rw [storeWordAddress_ok]
  by_cases h0 : low2 a = 0
  · exact .inl ⟨h0, by rw [and_wordMask_of_low2 h0, ite_self]⟩
  · exact .inr ⟨h0, h.resolve_left h0, rfl⟩

theorem storeWordFrom_of_mapped (hal : low2 acc.address = 0 ∨ s.alignA = false)
    (hm : s.mappedBytes (if s.alignU then acc.address else acc.address &&& 0xFFFFFFFC) 4 = true) :
    storeWordFrom s rn rd acc =
      endStore (s.storeWord (if s.alignU then acc.address else acc.address &&& 0xFFFFFFFC) (s.storedReg s.mode rd))
        rn acc := by
  have hwrite := (memWriteWord_ok s _ (if s.alignU then acc.address else acc.address &&& 0xFFFFFFFC)
    (s.storedReg s.mode rd)).mpr ⟨hm, rfl⟩
  rw [storeWordFrom, Exec.bind_of_ok (storeWordAddress_of hal), Exec.bind_of_ok hwrite]

theorem mappedBytes_one (s : State) (a : Word) : s.mappedBytes a 1 = s.mapped a := by
  rw [State.mappedBytes, List.range_one, List.all_cons, List.all_nil, Bool.and_true]
  exact congrArg s.mapped (BitVec.add_zero a)

theorem storeByteFrom_of_mapped (hm : s.mapped acc.address = true) :
    storeByteFrom s rn rd acc = endStore (s.store acc.address [(s.readReg rd).extractLsb' 0 8]) rn acc :=
  Exec.bind_of_ok ((memWrite_ok s _ acc.address [byteOf (s.readReg rd) 0]).mpr ⟨(mappedBytes_one s _).trans hm, rfl⟩)

/-- Settles O44. -/
theorem storeResults : Obligations.StoreResults := by
  unfold Obligations.StoreResults
  intro c up rn rd s hr
  refine ⟨fun ix off acc hacc => ?_, fun ix off acc hacc h15 h hal hm => ?_⟩
  intro done a
  refine ⟨fun hal hm => ?_, fun h15 hm => ?_⟩
  · have hend : finish s (storeWordFrom s rn rd acc) = .next (done (s.storeWord a (s.storedReg s.mode rd))) := by
      rw [storeWordFrom_of_mapped hal hm]
      exact finish_endStore hr.2 (State.storeWord_pc ..)
    refine ⟨fun h => (exec_str hr.1 hacc h).trans hend, fun hix h => ?_⟩
    subst hix
    exact (exec_strt hr.1 hacc h).trans hend
  · have hend : finish s (storeByteFrom s rn rd acc) =
        .next (done (s.store acc.address [(s.readReg rd).extractLsb' 0 8])) := by
      rw [storeByteFrom_of_mapped hm]
      exact finish_endStore hr.2 (State.store_pc ..)
    refine ⟨fun h => (exec_strb hr.1 hacc h h15).trans hend, fun hix h => ?_⟩
    subst hix
    exact (exec_strbt hr.1 hacc h h15).trans hend
  · have hwrite := (memWrite_ok s _ acc.address (halfBytes s.bigEndianData (s.half rd false))).mpr
      ⟨by rwa [halfBytes_length], rfl⟩
    refine (exec_strh hr.1 hacc h h15).trans ?_
    rw [Exec.bind_of_ok ((checkHalfStore_ok ..).mpr hal)]
    exact (congrArg (finish s) (Exec.bind_of_ok hwrite)).trans (finish_endStore hr.2 (State.store_pc ..))

/-- Settles O43. -/
theorem doublewordResults : Obligations.DoublewordResults := by
  unfold Obligations.DoublewordResults
  intro c ix up rn rd off s hr h0 h14 h acc hacc hlow h8
  have hal : doubleMisaligned s acc.address = false := by
    rw [doubleMisaligned, hlow]
    rcases h8 with hU | h2
    · rw [hU]; rfl
    · rw [h2, Bool.and_false]; rfl
  refine ⟨fun lo hlo hi hhi hpair => ?_, fun hm => ?_⟩
  · have hlo' := (memWord_iff ..).mpr hlo
    have hhi' := (memWord_iff ..).mpr hhi
    have hm : s.mappedBytes acc.address 8 = true := 
      (mappedBytes_add s acc.address 4).mpr ⟨mappedBytes_of_wordAt hlo, mappedBytes_of_wordAt hhi⟩
    rw [exec_ldrd hr.1 hacc h0 h14 h hpair, Exec.bind_of_ok ((loadDouble_ok ..).mpr ⟨hal, hm, hlo', hhi'⟩)]
    exact finish_endLoad hr.2 (State.writeReg_pc ..)
  · rw [exec_strd hr.1 hacc h0 h14 h, Exec.bind_of_ok ((checkDoubleAligned_ok ..).mpr hal),
      Exec.bind_of_ok ((checkWords_ok s acc.address 2).mpr hm)]
    exact finish_endStore hr.2 (State.storeWords_pc ..)

end Sys2Proof.Machine
end

section
/-! What a store leaves in memory (O45). -/

namespace Sys2Proof.Machine

variable {s t : State} {a b v : Word}

/-! ### Addresses -/

theorem add_ofNat_ne {i k : Nat} (h : i ≠ k) (hi : i < 2 ^ 32) (hk : k < 2 ^ 32) :
    a + BitVec.ofNat 32 i ≠ a + BitVec.ofNat 32 k := fun e => h <| by
  have e' := congrArg BitVec.toNat (add_left_cancel e)
  rwa [BitVec.toNat_ofNat, BitVec.toNat_ofNat, Nat.mod_eq_of_lt hi, Nat.mod_eq_of_lt hk] at e'

theorem add_ofNat_zero (a : Word) : a + BitVec.ofNat 32 0 = a := BitVec.add_zero a

/-! ### What reads depend on -/

theorem dataByte_congr (hmem : t.mem = s.mem) (hpar : t.params = s.params) (x : Word) : t.dataByte x =
    s.dataByte x := by
  rw [State.dataByte, State.dataByte, State.mapped, State.mapped, State.byteAt, State.byteAt, hmem, hpar]

theorem bigEndianData_congr (hcpsr : t.cpsr = s.cpsr) (hpar : t.params = s.params) : t.bigEndianData =
    s.bigEndianData := by
  simp only [State.bigEndianData, State.isV6, State.bitE, hcpsr, hpar]

theorem wordAt_congr_bytes (hbig : t.bigEndianData = s.bigEndianData)
    (h : ∀ k < 4, t.dataByte (a + BitVec.ofNat 32 k) = s.dataByte (a + BitVec.ofNat 32 k)) : t.wordAt a =
      s.wordAt a := by
  refine Option.ext fun v => ?_
  rw [wordAt_iff, wordAt_iff, hbig]
  exact forall₂_congr fun k hk => by rw [h k hk]

theorem wordAt_congr (hmem : t.mem = s.mem) (hpar : t.params = s.params) (hcpsr : t.cpsr = s.cpsr) (a : Word) :
    t.wordAt a = s.wordAt a :=
  wordAt_congr_bytes (bigEndianData_congr hcpsr hpar) fun _ _ => dataByte_congr hmem hpar _

/-! ### Stored bytes -/

theorem State.byteAt_putBytes (s : State) (a : Word) (vs : List Byte) (hlen : vs.length ≤ 2 ^ 32) {k : Nat}
    (hk : k < vs.length) : (s.putBytes a vs).byteAt (a + BitVec.ofNat 32 k) = vs[k]? := by
  induction vs generalizing s a k with
  | nil => exact absurd hk (Nat.not_lt_zero k)
  | cons v vs ih =>
    rw [List.length_cons] at hlen hk
    cases k with
    | zero =>
      have hother : ∀ i < vs.length, a + 1 + BitVec.ofNat 32 i ≠ a + BitVec.ofNat 32 0 := fun i hi => by
        rw [Word.add_one_add_ofNat]
        exact add_ofNat_ne (by omega) (by omega) (by omega)
      rw [State.putBytes, State.byteAt_putBytes_other _ _ _ _ hother, State.byteAt_putByte, add_ofNat_zero, if_pos rfl]
      rfl
    | succ k =>
      rw [← Word.add_one_add_ofNat, State.putBytes, ih _ _ (by omega) (by omega)]
      rfl

theorem State.byteAt_store (s : State) (a : Word) (vs : List Byte) (hlen : vs.length ≤ 2 ^ 32) {k : Nat}
    (hk : k < vs.length) : (s.store a vs).byteAt (a + BitVec.ofNat 32 k) = vs[k]? := by
  rw [State.store, State.byteAt_clearOnStore, State.byteAt_putBytes _ _ _ hlen hk]

theorem wordBytes_getElem? (big : Bool) (v : Word) {k : Nat} (hk : k < 4) :
    (wordBytes big v)[k]? = some (byteAtOffset big v k) := by
  unfold wordBytes byteAtOffset
  cases big <;> interval_cases k <;> rfl

theorem State.byteAt_storeWord (s : State) (a v : Word) {k : Nat} (hk : k < 4) :
    (s.storeWord a v).byteAt (a + BitVec.ofNat 32 k) = some (byteAtOffset s.bigEndianData v k) := by
  rw [State.storeWord, State.byteAt_store _ _ _ (by rw [wordBytes_length]; decide) (by rwa [wordBytes_length]),
    wordBytes_getElem? _ _ hk]

theorem State.byteAt_storeWord_other (s : State) (v : Word) (h : ∀ k < 4, a + BitVec.ofNat 32 k ≠ b) :
    (s.storeWord a v).byteAt b = s.byteAt b :=
  State.byteAt_store_other s a b _ (by rwa [wordBytes_length])

theorem State.storeWord_bigEndianData (s : State) (a v : Word) : (s.storeWord a v).bigEndianData = s.bigEndianData :=
  bigEndianData_congr (State.storeWord_cpsr ..) (State.storeWord_params ..)

theorem State.storeWord_mapped (s : State) (a v x : Word) : (s.storeWord a v).mapped x = s.mapped x := by
  rw [State.mapped, State.mapped, State.storeWord_params]

theorem State.storeWord_mappedBytes (s : State) (a v x : Word) (n : Nat) :
    (s.storeWord a v).mappedBytes x n = s.mappedBytes x n := by
  simp only [State.mappedBytes, State.storeWord_mapped]

/-- A stored word reads back. -/
theorem wordAt_storeWord (hm : s.mappedBytes a 4 = true) : (s.storeWord a v).wordAt a = some v := by
  rw [wordAt_iff]
  intro k hk
  rw [State.dataByte, State.storeWord_mapped, (mappedBytes_iff ..).mp hm k hk, if_pos rfl,
    State.byteAt_storeWord _ _ _ hk,
    State.storeWord_bigEndianData]

theorem wordAt_storeWord_other (h : ∀ i < 4, ∀ k < 4, a + BitVec.ofNat 32 i ≠ b + BitVec.ofNat 32 k) :
    (s.storeWord a v).wordAt b = s.wordAt b :=
  wordAt_congr_bytes (State.storeWord_bigEndianData ..) fun k hk => by
    rw [State.dataByte, State.dataByte, State.storeWord_mapped,
      State.byteAt_storeWord_other _ _ fun i hi => h i hi k hk]

/-- Settles O45. -/
theorem storedWord : Obligations.StoredWord := by
  unfold Obligations.StoredWord
  intro s a v hm t
  refine ⟨wordAt_storeWord hm, fun k hk => s.byteAt_storeWord a v hk, fun k hk => ?_, fun b hb => ?_⟩
  · exact (s.mem_written_store a _ _).mpr (.inr ⟨k, by rwa [wordBytes_length], rfl⟩)
  · exact s.byteAt_storeWord_other v fun k hk => (hb k hk).symm

/-! ### Stored blocks -/

theorem wordAt_storeWords_other (vs : List Word)
    (h : ∀ i < 4 * vs.length, ∀ k < 4, a + BitVec.ofNat 32 i ≠ b + BitVec.ofNat 32 k) :
    (s.storeWords a vs).wordAt b = s.wordAt b := by
  induction vs generalizing s a with
  | nil => rfl
  | cons v vs ih =>
    rw [List.length_cons] at h
    rw [State.storeWords, ih fun i hi k hk => ?_, wordAt_storeWord_other fun i hi k hk => h i (by omega) k hk]
    rw [Word.add_four_add_ofNat]
    exact h (4 + i) (by omega) k hk

/-- Each word of a stored block reads back at its place. -/
theorem wordAt_storeWords (vs : List Word) (hlen : 4 * vs.length ≤ 2 ^ 32) (hm : s.mappedBytes a (4 * vs.length) = true)
    {k : Nat} (hk : vs[k]? = some v) : (s.storeWords a vs).wordAt (a + BitVec.ofNat 32 (4 * k)) = some v := by
  induction vs generalizing s a k with
  | nil => simp at hk
  | cons w vs ih =>
    rw [List.length_cons, Nat.mul_add, Nat.add_comm] at hlen
    rw [List.length_cons, Nat.mul_add, Nat.add_comm, mappedBytes_add] at hm
    obtain ⟨hfirst, hrest⟩ := hm
    cases k with
    | zero =>
      rw [show w = v by simpa using hk, add_ofNat_zero, State.storeWords, wordAt_storeWords_other vs fun i hi k hk =>
        ?_]
      · exact wordAt_storeWord hfirst
      · rw [Word.add_four_add_ofNat]
        exact add_ofNat_ne (by omega) (by omega) (by omega)
    | succ k =>
      rw [Nat.mul_add, Nat.add_comm, ← Word.add_four_add_ofNat, State.storeWords]
      exact ih (by omega) (by rwa [State.storeWord_mappedBytes]) (by simpa using hk)

end Sys2Proof.Machine
end

section
/-! LDREX, STREX, SWP and SWPB, and the misaligned accesses that stop (O42, O51, O52, O53). -/

namespace Sys2Proof.Machine

variable {c : Cond} {rd rn rm re : Reg} {s t : State} {a v : Word}

/-! ### What runs after the checks -/

theorem exec_ldrex (hc : conditionPassed c s = true) (hn : rn ≠ 15) (hd : rd ≠ 15) :
    exec (.ldrex c rn rd) s = finishFrom (abortedLdrex s (s.readReg rn)) s (checkExclusive s (s.readReg rn) >>= fun _ =>
      memWord s (s.readReg rn) >>= fun data =>
        advance (((s.markGlobal (s.readReg rn)).markLocal (s.readReg rn)).writeReg rd data)) := by
  change finishFrom _ s (conditional c s _) = _
  rw [conditional_pass _ hc, Exec.bind_of_ok ((requireNoPc_ok _).mpr (noPc_two hd hn))]

theorem exec_strex (hc : conditionPassed c s = true) (hn : rn ≠ 15) (hd : rd ≠ 15) (hm : rm ≠ 15) (hdm : rd ≠ rm)
    (hdn : rd ≠ rn) :
    exec (.strex c rn rd rm) s = finish s (checkExclusive s (s.readReg rn) >>= fun _ =>
      checkWords s (s.readReg rn) 1 >>= fun _ =>
        if strexPasses s (s.readReg rn) then
          advance ((strexStore s (s.readReg rn) (s.readReg rm)).writeReg rd 0).openLocal
        else advance (s.writeReg rd 1).openLocal) := by
  have hregs : (rd != rm && rd != rn) = true := by rw [bne_iff_ne.mpr hdm, bne_iff_ne.mpr hdn]; rfl
  exact (finish_conditional_of_pass hc).trans (congrArg _
    ((Exec.bind_of_ok ((requireNoPc_ok _).mpr (noPc_three hd hn hm))).trans (require_bind hregs)))

theorem checkSwap_bind {f : Unit → Exec State} (hn : rn ≠ 15) (hd : rd ≠ 15) (hm : rm ≠ 15) (hnm : rn ≠ rm)
    (hnd : rn ≠ rd) : (checkSwap rn rd rm >>= f) = f () := by
  refine Exec.bind_of_ok ?_
  rw [checkSwap, Exec.bind_of_ok ((requireNoPc_ok _).mpr (noPc_three hd hn hm))]
  exact (require_ok ..).mpr (by rw [bne_iff_ne.mpr hnm, bne_iff_ne.mpr hnd]; rfl)

theorem exec_swp (hc : conditionPassed c s = true) (hn : rn ≠ 15) (hd : rd ≠ 15) (hm : rm ≠ 15) (hnm : rn ≠ rm)
    (hnd : rn ≠ rd) :
    exec (.swp c rn rd rm) s = finish s (swapAddress s (s.readReg rn) >>= fun a => memWord s a >>= fun v =>
      memWriteWord s a (s.readReg rm) >>= fun t =>
        advance (t.writeReg rd (rotr v (8 * (low2 (s.readReg rn)).toNat)))) :=
  (finish_conditional_of_pass hc).trans (congrArg _ (checkSwap_bind hn hd hm hnm hnd))

theorem exec_swpb (hc : conditionPassed c s = true) (hn : rn ≠ 15) (hd : rd ≠ 15) (hm : rm ≠ 15) (hnm : rn ≠ rm)
    (hnd : rn ≠ rd) :
    exec (.swpb c rn rd rm) s = finish s (memByte s (s.readReg rn) >>= fun v =>
      memWrite s (s.readReg rn) [byteOf (s.readReg rm) 0] >>= fun t => advance (t.writeReg rd (zext v))) :=
  (finish_conditional_of_pass hc).trans (congrArg _ (checkSwap_bind hn hd hm hnm hnd))

/-! ### Misaligned accesses that are UNPREDICTABLE (O42) -/

theorem checkExclusive_stops (hA : s.alignA = false) (hU : s.alignU = false) (h : low2 a ≠ 0) :
    checkExclusive s a = unpredictable .misaligned := by
  rw [checkExclusive, if_neg h, hA, hU]
  rfl

theorem checkDoubleAligned_stops (hA : s.alignA = false) (h : a.toNat % (if s.alignU then 4 else 8) ≠ 0) :
    checkDoubleAligned s a = unpredictable .misaligned := by
  rw [checkDoubleAligned, doubleMisaligned_eq, decide_eq_true h, hA]
  rfl

theorem loadHalf_stops (hA : s.alignA = false) (hU : s.alignU = false) (h : a.getLsbD 0 = true) :
    loadHalf s a = unpredictable .misaligned := by
  rw [loadHalf, h, hA, hU]
  rfl

theorem checkHalfStore_stops (hA : s.alignA = false) (hU : s.alignU = false) (h : a.getLsbD 0 = true) :
    checkHalfStore s a = unpredictable .misaligned := by
  rw [checkHalfStore, h, hA, hU]
  rfl

/-- Settles O42. -/
theorem misalignedAccessStops : Obligations.MisalignedAccessStops := by
  unfold Obligations.MisalignedAccessStops
  intro c up rn rd s hc hA
  refine ⟨fun ix off acc hacc => ⟨fun hU h15 h hodd => ⟨?_, ?_, ?_⟩, fun h0 h14 h hmis => ⟨fun hpair => ?_, ?_⟩⟩,
    fun m hm hn hd hU hmis => ⟨?_, fun hdn hdm => ?_⟩⟩
  · rw [exec_ldrh hc hacc h h15]
    exact stopsAs_finish (Exec.bind_of_error (loadHalf_stops hA hU hodd))
  · rw [exec_ldrsh hc hacc h h15]
    exact stopsAs_finish (Exec.bind_of_error (loadHalf_stops hA hU hodd))
  · rw [exec_strh hc hacc h h15]
    exact stopsAs_finish (Exec.bind_of_error (checkHalfStore_stops hA hU hodd))
  · rw [exec_ldrd hc hacc h0 h14 h hpair]
    exact stopsAs_finish (Exec.bind_of_error (Exec.bind_of_error (checkDoubleAligned_stops hA hmis)))
  · rw [exec_strd hc hacc h0 h14 h]
    exact stopsAs_finish (Exec.bind_of_error (checkDoubleAligned_stops hA hmis))
  · rw [exec_ldrex hc hn hd, Exec.bind_of_error (checkExclusive_stops hA hU hmis)]
    rfl
  · rw [exec_strex hc hn hd hm hdm hdn]
    exact stopsAs_finish (Exec.bind_of_error (checkExclusive_stops hA hU hmis))

/-! ### LDREX and STREX -/

theorem exec_ldrex_next (hr : s.runs c) (hn : rn ≠ 15) (hd : rd ≠ 15) (h0 : low2 (s.readReg rn) = 0)
    (hv : s.wordAt (s.readReg rn) = some v) :
    exec (.ldrex c rn rd) s =
      .next (((s.markGlobal (s.readReg rn)).markLocal (s.readReg rn)).writeReg rd v).past := by
  rw [exec_ldrex hr.1 hn hd, Exec.bind_of_ok ((checkExclusive_ok ..).mpr h0), Exec.bind_of_ok ((memWord_iff ..).mpr hv),
    (advance_ok _ _).mpr ⟨by simpa using hr.2, rfl⟩]
  rfl

/-- A STREX whose marks hold changes memory as a store does, and else only the global monitor, its register and the
local monitor. -/
theorem strexStore_eq (s : State) (a v : Word) :
    strexStore s a v = { s.storeWord a v with globalMonitor := (strexStore s a v).globalMonitor } := by
  unfold strexStore
  split <;> rfl

theorem strexStore_pc (s : State) (a v : Word) : (strexStore s a v).pc = s.pc := by
  rw [strexStore_eq]
  exact State.storeWord_pc ..

section Strex
variable (hr : s.runs c) (hn : rn ≠ 15) (hd : rd ≠ 15) (hm : rm ≠ 15) (hdm : rd ≠ rm) (hdn : rd ≠ rn)
  (h0 : low2 (s.readReg rn) = 0) (hmap : s.mappedBytes (s.readReg rn) 4 = true)
include hr hn hd hm hdm hdn h0 hmap

theorem exec_strex_stores (hp : strexPasses s (s.readReg rn) = true) :
    exec (.strex c rn rd rm) s =
      .next ((strexStore s (s.readReg rn) (s.readReg rm)).writeReg rd 0).openLocal.past := by
  rw [exec_strex hr.1 hn hd hm hdm hdn, Exec.bind_of_ok ((checkExclusive_ok ..).mpr h0),
    Exec.bind_of_ok ((checkWords_ok s _ 1).mpr hmap)]
  rw [if_pos hp]
  exact finish_advance ((State.writeReg_pc ..).trans (strexStore_pc ..)) hr.2

theorem exec_strex_declines (hp : strexPasses s (s.readReg rn) = false) :
    exec (.strex c rn rd rm) s = .next (s.writeReg rd 1).openLocal.past := by
  rw [exec_strex hr.1 hn hd hm hdm hdn, Exec.bind_of_ok ((checkExclusive_ok ..).mpr h0),
    Exec.bind_of_ok ((checkWords_ok s _ 1).mpr hmap)]
  rw [hp, if_neg Bool.false_ne_true]
  exact finish_advance (State.writeReg_pc ..) hr.2

end Strex

/-! ### When the marks hold -/

theorem exclusiveLocal_of_mark (h : s.localMonitor = some ⟨a, 4⟩) : s.exclusiveLocal a = true := by
  rw [State.exclusiveLocal, h]
  simp

theorem exclusiveGlobal_of_mark (h : ⟨0, ⟨a, 4⟩⟩ ∈ s.globalMonitor) : s.exclusiveGlobal a = true :=
  List.any_eq_true.mpr ⟨_, h, by simp [sameGranule]⟩

theorem strexPasses_of_marks (hl : s.localMonitor = some ⟨a, 4⟩)
    (hg : s.isShared a = true → ⟨0, ⟨a, 4⟩⟩ ∈ s.globalMonitor) : strexPasses s a = true := by
  rw [strexPasses, exclusiveLocal_of_mark hl]
  cases hs : s.isShared a with
  | false => rfl
  | true => exact exclusiveGlobal_of_mark (hg hs)

theorem strexPasses_of_open (h : s.localMonitor = none) : strexPasses s a = false := by
  rw [strexPasses, State.exclusiveLocal, h]
  rfl

theorem strexPasses_of_noMark (hs : s.isShared a = true) (h : ∀ g ∈ s.globalMonitor, g.pid ≠ 0) :
    strexPasses s a = false := by
  have hg : s.exclusiveGlobal a = false :=
    List.any_eq_false.mpr fun g hg => by simp [beq_eq_false_iff_ne.mpr (h g hg)]
  rw [strexPasses, hs, hg]
  exact Bool.and_false _

/-! ### Opening the local monitor commutes with a store and a register write -/

theorem writeReg_openLocal (s : State) (r : Reg) (v : Word) : (s.writeReg r v).openLocal =
    s.openLocal.writeReg r v := by
  have hmode : s.openLocal.mode = s.mode := rfl
  unfold State.writeReg State.writeRegIn
  rw [hmode]
  cases physReg s.mode r <;> rfl

theorem putBytes_openLocal (s : State) (a : Word) (vs : List Byte) :
    (s.putBytes a vs).openLocal = s.openLocal.putBytes a vs := by
  induction vs generalizing s a with
  | nil => rfl
  | cons v vs ih => exact ih ..

theorem store_openLocal (s : State) (a : Word) (vs : List Byte) : (s.store a vs).openLocal =
    s.openLocal.store a vs := by
  rw [State.store, State.store, ← putBytes_openLocal]
  unfold State.clearOnStore
  change _ = if ((s.putBytes a vs).isV6 && (s.putBytes a vs).isShared a) = true then _ else _
  split <;> rfl

theorem storeWord_openLocal (s : State) (a v : Word) : (s.storeWord a v).openLocal = s.openLocal.storeWord a v :=
  store_openLocal ..

/-! ### What STREX leaves -/

theorem mem_globalMonitor_storeWord {g : GlobalMark} (h : g ∈ (s.storeWord a v).globalMonitor) :
    g ∈ s.globalMonitor := by
  have hput (vs : List Byte) (a : Word) (s : State) : (s.putBytes a vs).globalMonitor = s.globalMonitor := by
    induction vs generalizing s a with
    | nil => rfl
    | cons v vs ih => exact ih ..
  rw [State.storeWord, State.store, State.clearOnStore] at h
  split at h
  · rw [← hput]
    exact List.mem_of_mem_filter h
  · rwa [hput] at h

theorem mem_globalMonitor_strexStore {g : GlobalMark} (hs : s.isShared a = true)
    (h : g ∈ (strexStore s a v).globalMonitor) : g ∈ s.globalMonitor ∧ g.pid ≠ 0 := by
  rw [strexStore, if_pos hs] at h
  obtain ⟨hg, hp⟩ := List.mem_filter.mp h
  exact ⟨mem_globalMonitor_storeWord (List.mem_of_mem_filter hg), bne_iff_ne.mp hp⟩

theorem readReg_past (s : State) {r : Reg} (h : r ≠ 15) : s.past.readReg r = s.readReg r := by
  obtain ⟨p, hp⟩ := Option.isSome_iff_exists.mp ((physReg_isSome s.mode r).mpr h)
  change s.past.readRegIn s.mode r = s.readRegIn s.mode r
  unfold State.readRegIn
  rw [hp]
  rfl

theorem readReg_openLocal (s : State) (r : Reg) : s.openLocal.readReg r = s.readReg r := rfl

/-- What a STREX that stores leaves. -/
theorem wordAt_strex (hm : s.mappedBytes a 4 = true) :
    ((strexStore s a v).writeReg rd 0).openLocal.past.wordAt a = some v := by
  have hword : (strexStore s a v).wordAt a = some v := by
    rw [strexStore_eq]
    exact wordAt_storeWord hm
  rw [← hword]
  exact wordAt_congr (State.writeReg_mem ..) (State.writeReg_params ..) (State.writeReg_cpsr ..) a

theorem readReg_writeReg_openLocal_past (s : State) {r : Reg} (h : r ≠ 15) :
    (s.writeReg r v).openLocal.past.readReg r = v := by
  rw [readReg_past _ h, readReg_openLocal, State.readReg_writeReg, if_pos ⟨rfl, h⟩]

/-- Settles O51. -/
theorem exclusiveResults : Obligations.ExclusiveResults := by
  unfold Obligations.ExclusiveResults
  intro c rn rd rm s hr hn hd a opened h0
  refine ⟨fun v hv => ?_, fun hm hdn hdm hmap => ⟨fun hl hs => ?_, fun hl hs hg => ?_, fun h => ?_⟩⟩
  · have hmark : (s.markGlobal a).markLocal a = { s with
        localMonitor := some ⟨a, 4⟩
        globalMonitor := if s.isShared a then ⟨0, ⟨a, 4⟩⟩ :: s.globalMonitor.filter (fun g => g.pid != 0)
          else s.globalMonitor } := by
      unfold State.markGlobal
      split <;> rfl
    rw [exec_ldrex_next hr hn hd h0 hv, hmark]
    exact congrArg _ (State.result_self ..).symm
  · have hstore : strexStore s a (s.readReg rm) = s.storeWord a (s.readReg rm) := if_neg (by rw [hs]; decide)
    have hcpsr : s.cpsr = (opened.storeWord a (s.readReg rm)).cpsr := (State.storeWord_cpsr opened a _).symm
    rw [exec_strex_stores hr hn hd hm hdm hdn h0 hmap (strexPasses_of_marks hl fun h => by rw [hs] at h; cases h),
      hstore,
      writeReg_openLocal, storeWord_openLocal, hcpsr, State.result_self]
    rfl
  · refine ⟨_, exec_strex_stores hr hn hd hm hdm hdn h0 hmap (strexPasses_of_marks hl fun _ => hg), wordAt_strex hmap,
      readReg_writeReg_openLocal_past _ hd, rfl, fun g hg => ?_⟩
    have hg' : g ∈ (strexStore s a (s.readReg rm)).globalMonitor := by
      rwa [← State.writeReg_globalMonitor (strexStore s a (s.readReg rm)) rd 0]
    exact mem_globalMonitor_strexStore hs hg'
  · have hp : strexPasses s a = false := by
      rcases h with h | ⟨hs, h⟩
      · exact strexPasses_of_open h
      · exact strexPasses_of_noMark hs h
    rw [exec_strex_declines hr hn hd hm hdm hdn h0 hmap hp, writeReg_openLocal]
    exact congrArg _ (State.result_self opened rd 1).symm

theorem readReg_congr (hregs : t.regs = s.regs) (hcpsr : t.cpsr = s.cpsr) (hpc : t.pc = s.pc) (r : Reg) :
    t.readReg r = s.readReg r := by
  simp only [State.readReg, State.readRegIn, State.readPhys, State.mode, hregs, hcpsr, hpc]

theorem mappedBytes_congr (hpar : t.params = s.params) (a : Word) (n : Nat) : t.mappedBytes a n =
    s.mappedBytes a n := by
  simp only [State.mappedBytes, State.mapped, hpar]

/-- Another register of the current mode after a write and the move of the pc. -/
theorem readReg_writeReg_past_of_ne (s : State) {r k : Reg} (h : r ≠ k) (hk : k ≠ 15) :
    (s.writeReg r v).past.readReg k = s.readReg k := by
  rw [readReg_past _ hk, State.readReg_writeReg, if_neg fun e => h e.1]

/-- The pc may move on twice and once more. -/
theorem add_four_toNat {x : Word} {n : Nat} (h : x.toNat + 4 + n < 2 ^ 32) : (x + 4).toNat + n < 2 ^ 32 := by
  rw [BitVec.toNat_add]
  exact lt_of_le_of_lt (Nat.add_le_add_right (Nat.mod_le _ _) _) h

/-- Settles O52: LDREX leaves both marks, the first STREX stores and opens the local monitor, the second finds it
open. -/
theorem ldrexThenStrex : Obligations.LdrexThenStrex := by
  unfold Obligations.LdrexThenStrex
  intro rn rd re rm s hpc hn hd he hm hdn hen hem h0 v hv
  have hmap := mappedBytes_of_wordAt hv
  have hrun : s.runs .al := ⟨rfl, by omega⟩
  refine ⟨_, exec_ldrex_next hrun hn hd h0 hv, ?_⟩
  generalize ht : (((s.markGlobal (s.readReg rn)).markLocal (s.readReg rn)).writeReg rd v).past = t
  have htpar : t.params = s.params := by rw [← ht]; simp [State.past]
  have htpc : t.pc = s.pc + 4 := by rw [← ht]; simp [State.past]
  have htn : t.readReg rn = s.readReg rn := by
    rw [← ht, readReg_writeReg_past_of_ne _ hdn hn]
    exact readReg_congr (by simp) (by simp) (by simp) rn
  have htlocal : t.localMonitor = some ⟨t.readReg rn, 4⟩ := by
    rw [htn, ← ht]
    exact State.writeReg_localMonitor ..
  have htglobal : t.isShared (t.readReg rn) = true → ⟨0, ⟨t.readReg rn, 4⟩⟩ ∈ t.globalMonitor := by
    rw [htn, State.isShared, htpar]
    intro hs
    have hmark : (s.markGlobal (s.readReg rn)).globalMonitor =
        ⟨0, ⟨s.readReg rn, 4⟩⟩ :: s.globalMonitor.filter (fun g => g.pid != 0) :=
      congrArg State.globalMonitor (if_pos hs)
    rw [← ht]
    change _ ∈ (State.writeReg ..).globalMonitor
    rw [State.writeReg_globalMonitor]
    exact hmark ▸ List.mem_cons_self
  have hmap_t : t.mappedBytes (t.readReg rn) 4 = true := by rw [htn, mappedBytes_congr htpar, hmap]
  have hrun_t : t.runs .al := ⟨rfl, by rw [htpc]; exact add_four_toNat (by omega)⟩
  have htv : t.readReg rd = v := by
    rw [← ht, readReg_past _ hd, State.readReg_writeReg, if_pos ⟨rfl, hd⟩]
  rw [← htn] at h0 ⊢
  refine ⟨htv, _, exec_strex_stores hrun_t hn he hm hem hen h0 hmap_t (strexPasses_of_marks htlocal htglobal),
    readReg_writeReg_openLocal_past _ he, wordAt_strex hmap_t, ?_⟩
  generalize hu : ((strexStore t (t.readReg rn) (t.readReg rm)).writeReg re 0).openLocal.past = u
  have hupar : u.params = t.params := by
    rw [← hu, strexStore_eq]
    exact (State.writeReg_params ..).trans (State.storeWord_params ..)
  have hupc : u.pc = t.pc + 4 := by
    rw [← hu]
    exact congrArg (· + 4) ((State.writeReg_pc ..).trans (strexStore_pc ..))
  have hun : u.readReg rn = t.readReg rn := by
    rw [← hu, readReg_past _ hn, readReg_openLocal, State.readReg_writeReg, if_neg fun e => hen e.1, strexStore_eq]
    exact readReg_congr (State.storeWord_regs ..) (State.storeWord_cpsr ..) (State.storeWord_pc ..) rn
  have hulocal : u.localMonitor = none := by rw [← hu]; rfl
  have hmap_u : u.mappedBytes (u.readReg rn) 4 = true := by rw [hun, mappedBytes_congr hupar, hmap_t]
  have hrun_u : u.runs .al := ⟨rfl, by rw [hupc, htpc]; exact add_four_toNat (add_four_toNat (by omega))⟩
  refine ⟨_, exec_strex_declines hrun_u hn he hm hem hen (hun ▸ h0) hmap_u (strexPasses_of_open hulocal),
    readReg_writeReg_openLocal_past _ he, State.writeReg_mem ..⟩

/-! ### SWP and SWPB -/

/-- R100: an address of SWP that is aligned, or whose low bits are ignored. -/
theorem swapAddress_of (h : low2 a = 0 ∨ (s.alignA = false ∧ s.alignU = false)) :
    swapAddress s a = .ok (a &&& 0xFFFFFFFC) := by
  rw [swapAddress_ok]
  by_cases h0 : low2 a = 0
  · exact .inl ⟨h0, and_wordMask_of_low2 h0⟩
  · exact .inr ⟨h0, (h.resolve_left h0).1, (h.resolve_left h0).2, rfl⟩

/-- Settles O53. -/
theorem swapResults : Obligations.SwapResults := by
  unfold Obligations.SwapResults
  intro c rn rd rm s hr hn hd hm hnm hnd a w
  refine ⟨fun v hv hal => ?_, fun b hb => ?_⟩
  · have haddr : swapAddress s a = .ok w := swapAddress_of hal
    have hwrite := (memWriteWord_ok s _ w (s.readReg rm)).mpr ⟨mappedBytes_of_wordAt hv, rfl⟩
    rw [exec_swp hr.1 hn hd hm hnm hnd, Exec.bind_of_ok haddr, Exec.bind_of_ok ((memWord_iff ..).mpr hv),
      Exec.bind_of_ok hwrite, low2_toNat, ← State.storeWord_cpsr s w (s.readReg rm), State.result_self]
    exact finish_advance ((State.writeReg_pc ..).trans (State.storeWord_pc ..)) hr.2
  · have hwrite := (memWrite_ok s _ a [byteOf (s.readReg rm) 0]).mpr
      ⟨(mappedBytes_one s a).trans (dataByte_some hb).1, rfl⟩
    rw [exec_swpb hr.1 hn hd hm hnm hnd, Exec.bind_of_ok ((memByte_iff ..).mpr hb), Exec.bind_of_ok hwrite,
      ← State.store_cpsr s a [(s.readReg rm).extractLsb' 0 8], State.result_self]
    exact finish_advance ((State.writeReg_pc ..).trans (State.store_pc ..)) hr.2

end Sys2Proof.Machine
end

section
/-! The multiple transfers (O47 to O50). -/

namespace Sys2Proof.Machine

variable {c : Cond} {am : Mode4} {wb : Bool} {rn r : Reg} {list : BitVec 16} {low : BitVec 15} {s t : State}
  {a v : Word} {vs : List Word}

/-! ### What runs after the checks -/

theorem exec_ldm1 (hc : conditionPassed c s = true) (hn : rn ≠ 15) (hl : list ≠ 0) :
    exec (.ldm1 c am wb rn list) s = finish s (loadBlock s am rn list >>= fun p =>
      if list.getLsbD 15 then loadPc (endLoadBlock s wb rn list p.1 p.2) (p.1.getLastD 0)
      else advance (endLoadBlock s wb rn list p.1 p.2)) :=
  (finish_conditional_of_pass hc).trans (congrArg _ (Exec.bind_of_ok ((checkList_ok ..).mpr ⟨hn, hl⟩)))

theorem exec_ldm2 (hc : conditionPassed c s = true) (hn : rn ≠ 15) (hl : low.setWidth 16 ≠ 0)
    (hs : s.mode.hasSpsr = true) :
    exec (.ldm2 c am rn low) s = finish s (loadBlock s am rn (low.setWidth 16) >>= fun p =>
      advance (s.writeRegs .usr ((listRegs (low.setWidth 16)).zip p.1)).armHazard) :=
  (finish_conditional_of_pass hc).trans
    (congrArg _ ((Exec.bind_of_ok ((checkList_ok ..).mpr ⟨hn, hl⟩)).trans (require_bind hs)))

theorem withPc_eq (low : BitVec 15) : withBit (low.setWidth 16) 15 true = 1#1 ++ low := by
  apply BitVec.eq_of_getLsbD_eq
  intro k hk
  simp only [getLsbD_withBit, BitVec.getLsbD_append, BitVec.getLsbD_setWidth]
  interval_cases k <;> simp

theorem exec_ldm3 {psr : Word} (hc : conditionPassed c s = true) (hn : rn ≠ 15) (hs : s.spsr.get s.mode = some psr) :
    exec (.ldm3 c am wb rn low) s = finish s (loadBlock s am rn (1#1 ++ low) >>= fun p =>
      returnCpsr (endLoadBlock s wb rn (1#1 ++ low) p.1 p.2) psr >>= fun t => returnTo t (p.1.getLastD 0)) := by
  rw [← withPc_eq]
  exact (finish_conditional_of_pass hc).trans (congrArg _
    ((Exec.bind_of_ok ((checkList_ok ..).mpr ⟨hn, withPc_ne_zero low⟩)).trans
      (Exec.bind_of_ok ((currentSpsr_ok s psr).mpr hs))))

theorem exec_stm1 (hc : conditionPassed c s = true) (hn : rn ≠ 15) (hl : list ≠ 0) :
    exec (.stm1 c am wb rn list) s = finish s (storeBlock s am rn list ((listRegs list).map (stmWord s wb rn list)) >>=
      fun t => advance (stmDrawn (t.writeBaseIf wb rn (listAddress s am rn list).2) wb rn list)) :=
  (finish_conditional_of_pass hc).trans (congrArg _ (Exec.bind_of_ok ((checkList_ok ..).mpr ⟨hn, hl⟩)))

theorem exec_stm2 (hc : conditionPassed c s = true) (hn : rn ≠ 15) (hl : list ≠ 0) (hs : s.mode.hasSpsr = true) :
    exec (.stm2 c am rn list) s = finish s (storeBlock s am rn list ((listRegs list).map (s.storedReg .usr)) >>=
      fun t => advance t.armHazard) :=
  (finish_conditional_of_pass hc).trans
    (congrArg _ ((Exec.bind_of_ok ((checkList_ok ..).mpr ⟨hn, hl⟩)).trans (require_bind hs)))

theorem exec_rfe (hn : rn ≠ 15) (hm : s.mode ≠ .usr) :
    exec (.rfe am wb rn) s = finish s (blockStart s (mode4 am (s.readReg rn) 8).1 2 >>= fun a =>
      memWord s a >>= fun value => memWord s (a + 4) >>= fun psr =>
        returnCpsr (s.writeBaseIf wb rn (mode4 am (s.readReg rn) 8).2) psr >>= fun t => returnTo t value) := by
  have hp : s.mode.privileged = true := (privileged_eq _).trans (decide_eq_true hm)
  change finish s (require (rn != 15) .r15Operand >>= fun _ => require s.mode.privileged .userMode >>= fun _ => _) = _
  rw [require_bind (bne_iff_ne.mpr hn), require_bind hp]

theorem exec_srs {m : Mode} {psr : Word} (hs : s.spsr.get s.mode = some psr) :
    exec (.srs am wb m.code) s = finish s (blockStart s (mode4 am (s.readRegIn m 13) 8).1 2 >>= fun a =>
      advance (if wb then (s.storeWords a [s.readReg 14, psr]).writeRegIn m 13 (mode4 am (s.readRegIn m 13) 8).2
        else s.storeWords a [s.readReg 14, psr])) := by
  have hcode : Mode.ofCode m.code = some m := by cases m <;> rfl
  change finish s (currentSpsr s >>= fun psr => _) = _
  rw [Exec.bind_of_ok ((currentSpsr_ok s psr).mpr hs), hcode]

theorem hasSpsr_of_ne {m : Mode} (hu : m ≠ .usr) (hs : m ≠ .sys) : m.hasSpsr = true := by
  cases m <;> simp_all [Mode.hasSpsr]

/-! ### The words of a transfer -/

/-- R100: a start that is aligned, or whose low bits are ignored. -/
theorem multipleStart_of {start : Word} (h : low2 start = 0 ∨ (s.alignA = false ∧ s.alignU = false)) :
    multipleStart s start = .ok (start &&& 0xFFFFFFFC) :=
  swapAddress_of h

/-- R100, R452: a transfer that is aligned or ignores the low bits, inside the address space and mapped, starts. -/
theorem blockStart_of {start : Word} {n : Nat} (hal : low2 start = 0 ∨ (s.alignA = false ∧ s.alignU = false))
    (hend : (start &&& 0xFFFFFFFC).toNat + 4 * n ≤ 2 ^ 32) (hm : s.mappedBytes (start &&& 0xFFFFFFFC) (4 * n) = true) :
    blockStart s start n = .ok (start &&& 0xFFFFFFFC) :=
  (blockStart_ok ..).mpr ⟨multipleStart_of hal, hend, hm⟩

theorem wordsAt_iff (s : State) (a : Word) (n : Nat) :
    s.wordsAt a n = true ↔ ∀ k < n, (s.wordAt (a + BitVec.ofNat 32 (4 * k))).isSome = true := by
  simp [State.wordsAt]

theorem wordsAt_succ {n : Nat} : s.wordsAt a (n + 1) = true ↔ (s.wordAt a).isSome = true ∧ s.wordsAt (a + 4) n =
    true := by
  simp only [wordsAt_iff, Word.add_four_add_ofNat]
  refine ⟨fun h => ⟨?_, fun k hk => ?_⟩, fun ⟨h, h'⟩ k hk => ?_⟩
  · have := h 0 (by omega)
    rwa [Nat.mul_zero, add_ofNat_zero] at this
  · have := h (k + 1) (by omega)
    rwa [Nat.mul_add, Nat.add_comm] at this
  · cases k with
    | zero => rwa [Nat.mul_zero, add_ofNat_zero]
    | succ k =>
      rw [Nat.mul_add, Nat.add_comm]
      exact h' k (by omega)

theorem mappedBytes_of_wordsAt {n : Nat} (h : s.wordsAt a n = true) : s.mappedBytes a (4 * n) = true := by
  induction n generalizing a with
  | zero => rfl
  | succ n ih =>
    obtain ⟨hfirst, hrest⟩ := wordsAt_succ.mp h
    obtain ⟨v, hv⟩ := Option.isSome_iff_exists.mp hfirst
    rw [Nat.mul_add, Nat.add_comm, mappedBytes_add]
    exact ⟨mappedBytes_of_wordAt hv, ih hrest⟩

/-- The words a block of readable words gives, each at its place. -/
theorem memWords_of_wordsAt {n : Nat} (h : s.wordsAt a n = true) :
    ∃ vs, memWords s a n = .ok vs ∧ vs.length = n ∧ ∀ k < n, s.wordAt (a + BitVec.ofNat 32 (4 * k)) = vs[k]? := by
  induction n generalizing a with
  | zero => exact ⟨[], rfl, rfl, fun k hk => absurd hk (Nat.not_lt_zero k)⟩
  | succ n ih =>
    obtain ⟨hfirst, hrest⟩ := wordsAt_succ.mp h
    obtain ⟨v, hv⟩ := Option.isSome_iff_exists.mp hfirst
    obtain ⟨vs, hvs, hlen, hword⟩ := ih hrest
    refine ⟨v :: vs, ?_, congrArg (· + 1) hlen, fun k hk => ?_⟩
    · rw [memWords, Exec.bind_of_ok ((memWord_iff ..).mpr hv), Exec.bind_of_ok hvs]
      rfl
    · cases k with
      | zero =>
        rw [Nat.mul_zero, add_ofNat_zero, hv]
        rfl
      | succ k =>
        rw [Nat.mul_add, Nat.add_comm, ← Word.add_four_add_ofNat, hword k (by omega)]
        rfl

/-- A load of a list answers with the word of each register at its rank. -/
theorem loadBlock_of (hal : low2 (mode4 am (s.readReg rn) (4 * (listRegs list).length)).1 = 0 ∨
      (s.alignA = false ∧ s.alignU = false))
    (hend : ((mode4 am (s.readReg rn) (4 * (listRegs list).length)).1 &&& 0xFFFFFFFC).toNat + 4 * (listRegs list).length
      ≤ 2 ^ 32)
    (hw : s.wordsAt ((mode4 am (s.readReg rn) (4 * (listRegs list).length)).1 &&& 0xFFFFFFFC) (listRegs list).length =
      true) :
    ∃ vs, loadBlock s am rn list = .ok (vs, (mode4 am (s.readReg rn) (4 * (listRegs list).length)).2) ∧
      vs.length = (listRegs list).length ∧ ∀ r : Reg, list.getLsbD r.toNat = true →
        s.wordAt (slotOf ((mode4 am (s.readReg rn) (4 * (listRegs list).length)).1 &&& 0xFFFFFFFC) list r) =
          vs[listRank list r]? := by
  obtain ⟨vs, hvs, hlen, hword⟩ := memWords_of_wordsAt hw
  exact ⟨vs, (loadBlock_ok ..).mpr ⟨_, blockStart_of hal hend (mappedBytes_of_wordsAt hw), hvs, rfl⟩, hlen,
    fun r hr => hword _ (listRank_lt hr)⟩

/-! ### Registers written from a list -/

theorem readPhys_writeRegs_of_notMem {m : Mode} {l : List (Reg × Word)} {p : PhysReg}
    (h : ∀ x ∈ l, physReg m x.1 ≠ some p) : (s.writeRegs m l).readPhys p = s.readPhys p := by
  induction l generalizing s with
  | nil => rfl
  | cons x l ih =>
    rw [State.writeRegs, ih fun y hy => h y (List.mem_cons_of_mem x hy), State.readPhys_writeRegIn,
      if_neg (h x List.mem_cons_self)]

/-- A register of a list without repetition holds its word afterwards. -/
theorem readPhys_writeRegs_of_mem {m : Mode} {l : List (Reg × Word)} {p : PhysReg} (hnd : (l.map Prod.fst).Nodup)
    (hmem : (r, v) ∈ l) (hp : physReg m r = some p) : (s.writeRegs m l).readPhys p = v := by
  induction l generalizing s with
  | nil => cases hmem
  | cons x l ih =>
    rw [List.map_cons, List.nodup_cons] at hnd
    obtain ⟨hx, hnd⟩ := hnd
    rw [State.writeRegs]
    rcases List.mem_cons.mp hmem with rfl | hmem
    · have hrest : ∀ y ∈ l, physReg m y.1 ≠ some p := fun y hy e => by
        have hkey := List.mem_map_of_mem (f := Prod.fst) hy
        rw [physReg_inj m y.1 r p e hp] at hkey
        exact hx hkey
      rw [readPhys_writeRegs_of_notMem hrest, State.readPhys_writeRegIn, if_pos hp]
    · exact ih hnd hmem

theorem mem_zip_of_rank (hr : list.getLsbD r.toNat = true)
    (hv : vs[listRank list r]? = some v) : (r, v) ∈ (listRegs list).zip vs :=
  List.mem_of_getElem? (List.getElem?_zip_eq_some.mpr ⟨listRegs_getElem?_rank hr, hv⟩)

theorem zip_map_fst (hlen : vs.length = (listRegs list).length) : ((listRegs list).zip vs).map Prod.fst =
    listRegs list :=
  List.map_fst_zip hlen.ge

theorem readPhys_listed {m : Mode} {p : PhysReg} (hlen : vs.length = (listRegs list).length)
    (hr : list.getLsbD r.toNat = true) (hv : vs[listRank list r]? = some v) (hp : physReg m r = some p) :
    (s.writeRegs m ((listRegs list).zip vs)).readPhys p = v :=
  readPhys_writeRegs_of_mem (by rw [zip_map_fst hlen]; exact listRegs_nodup list) (mem_zip_of_rank hr hv) hp

theorem readPhys_unlisted {m : Mode} {p : PhysReg} (hr : list.getLsbD r.toNat = false) (hp : physReg m r = some p) :
    (s.writeRegs m ((listRegs list).zip vs)).readPhys p = s.readPhys p :=
  readPhys_writeRegs_of_notMem fun x hx e => by
    have hx' := mem_listRegs.mp (List.of_mem_zip hx).1
    rw [physReg_inj m _ _ p e hp, hr] at hx'
    cases hx'

theorem physReg_of_ne (m : Mode) (h : r ≠ 15) : ∃ p, physReg m r = some p :=
  Option.isSome_iff_exists.mp ((physReg_isSome m r).mpr h)

theorem readRegIn_of_phys {m : Mode} {p : PhysReg} (h : physReg m r = some p) : s.readRegIn m r = s.readPhys p := by
  rw [State.readRegIn, h]

/-! ### The registers after LDM (1) and LDM (3) -/

theorem freeBase_readPhys {p : PhysReg} (h : wb = true → list.getLsbD rn.toNat = true → physReg s.mode rn ≠ some p) :
    (s.freeBase wb rn list).readPhys p = s.readPhys p := by
  unfold State.freeBase
  split
  next hb =>
    obtain ⟨hwb, hl⟩ := Bool.and_eq_true_iff.mp hb
    exact (State.readPhys_writeReg ..).trans (if_neg (h hwb hl))
  next => rfl

/-- A register of the list holds its word, unless it is the base, written back. -/
theorem endLoadBlock_listed {base : Word} (hlen : vs.length = (listRegs list).length) (h15 : r ≠ 15)
    (hr : list.getLsbD r.toNat = true) (hv : vs[listRank list r]? = some v) (hb : wb = true → r ≠ rn) :
    (endLoadBlock s wb rn list vs base).readRegIn s.mode r = v := by
  obtain ⟨p, hp⟩ := physReg_of_ne s.mode h15
  rw [readRegIn_of_phys hp, endLoadBlock, freeBase_readPhys fun hwb _ e => hb hwb ?_, readPhys_listed hlen hr hv hp]
  simp only [State.writeRegs_mode, State.writeBaseIf_mode] at e
  exact physReg_inj _ _ _ p hp e

/-- The base holds the value written back, unless it is in the list. -/
theorem endLoadBlock_base {base : Word} (hn : rn ≠ 15) (hl : list.getLsbD rn.toNat = false) :
    (endLoadBlock s true rn list vs base).readRegIn s.mode rn = base := by
  obtain ⟨p, hp⟩ := physReg_of_ne s.mode hn
  rw [readRegIn_of_phys hp, endLoadBlock, freeBase_readPhys fun _ h => absurd (h.symm.trans hl) (by decide),
    readPhys_unlisted hl hp]
  exact (State.readPhys_writeReg ..).trans (if_pos hp)

theorem endLoadBlock_pc {base : Word} : (endLoadBlock s wb rn list vs base).pc = s.pc := by simp [endLoadBlock]

theorem endLoadBlock_cpsr {base : Word} : (endLoadBlock s wb rn list vs base).cpsr = s.cpsr := by simp [endLoadBlock]

theorem endLoadBlock_spsr {base : Word} : (endLoadBlock s wb rn list vs base).spsr = s.spsr := by simp [endLoadBlock]

theorem endLoadBlock_mem {base : Word} : (endLoadBlock s wb rn list vs base).mem = s.mem := by simp [endLoadBlock]

theorem endLoadBlock_params {base : Word} : (endLoadBlock s wb rn list vs base).params = s.params := by
  simp [endLoadBlock]

theorem endLoadBlock_mode {base : Word} : (endLoadBlock s wb rn list vs base).mode = s.mode := by simp [endLoadBlock]

/-- R15, when it is in a list, has the last word. -/
theorem getLastD_of_rank (hlen : vs.length = (listRegs list).length) (h15 : list.getLsbD 15 = true)
    (hv : vs[listRank list 15]? = some v) : vs.getLastD 0 = v := by
  have hrank : (listRegs list).length = listRank list 15 + 1 := by
    rw [listRegs, List.length_map, List.range_succ, List.filter_append, List.length_append, List.filter_singleton, h15]
    rfl
  rw [List.getLastD_eq_getLast?, List.getLast?_eq_getElem?, hlen, hrank, Nat.add_sub_cancel, hv]
  rfl

theorem mode_congr (h : psrMode t.cpsr = psrMode s.cpsr) : t.mode = s.mode := by rw [State.mode, State.mode, h]

/-- What is read of a register of the current mode does not depend on the pc or on the bits of the CPSR outside its
mode. -/
theorem readReg_of_readRegIn {u : State} {m : Mode} (hm : u.mode = m) (hregs : u.regs = t.regs) (h15 : r ≠ 15)
    (h : t.readRegIn m r = v) : u.readReg r = v := by
  obtain ⟨p, hp⟩ := physReg_of_ne m h15
  rw [readRegIn_of_phys hp] at h
  rw [State.readReg, hm, readRegIn_of_phys hp, State.readPhys, hregs]
  exact h

theorem psrMode_psrThumb (x : Word) (b : Bool) : psrMode (psrThumb x b) = psrMode x := by
  apply BitVec.eq_of_getLsbD_eq
  intro k hk
  simp only [psrMode, psrThumb, BitVec.getLsbD_extractLsb', BitVec.getLsbD_append, BitVec.getLsbD_ofBool]
  interval_cases k <;> simp

theorem State.armHazard_bankHazard (s : State) :
    s.armHazard.bankHazard = if s.isV6 then s.bankHazard else .armed := by
  unfold State.armHazard
  split <;> rfl

theorem physReg_usr_ofNat : ∀ k : Fin 15, physReg .usr (BitVec.ofNat 4 k.val) = some (.usr k) := by decide

/-- Settles O47. -/
theorem loadMultipleResults : Obligations.LoadMultipleResults := by
  unfold Obligations.LoadMultipleResults
  intro c am wb rn list s hr hn hl n start a hal hend hw
  obtain ⟨vs, hload, hlen, hword⟩ := loadBlock_of hal hend hw
  have value {r : Reg} (hr : list.getLsbD r.toNat = true) :
      ∃ v, s.wordAt (slotOf a list r) = some v ∧ vs[listRank list r]? = some v := by
    have hlt : listRank list r < vs.length := by rw [hlen]; exact listRank_lt hr
    exact ⟨_, (hword r hr).trans (List.getElem?_eq_getElem hlt), List.getElem?_eq_getElem hlt⟩
  have listed {u : State} (hm : u.mode = s.mode)
      (hregs : u.regs = (endLoadBlock s wb rn list vs (mode4 am (s.readReg rn) (4 * n)).2).regs)
        {r : Reg} (h15 : r ≠ 15)
      (hr : list.getLsbD r.toNat = true) (hb : wb = true → r ≠ rn) :
      s.wordAt (slotOf a list r) = some (u.readReg r) := by
    obtain ⟨v, hv, hvs⟩ := value hr
    rw [hv, readReg_of_readRegIn hm hregs h15 (endLoadBlock_listed hlen h15 hr hvs hb)]
  have base {u : State} (hm : u.mode = s.mode)
      (hregs : u.regs = (endLoadBlock s wb rn list vs (mode4 am (s.readReg rn) (4 * n)).2).regs) (hwb : wb = true)
      (hl : list.getLsbD rn.toNat = false) : u.readReg rn = (mode4 am (s.readReg rn) (4 * n)).2 := by
    subst hwb
    exact readReg_of_readRegIn hm hregs hn (endLoadBlock_base hn hl)
  refine ⟨fun h15 => ?ldm1, fun v hv h15 hx => ?ldm1pc, fun low hlow hu hs => ?ldm2⟩
  case ldm1 =>
    refine ⟨(endLoadBlock s wb rn list vs (mode4 am (s.readReg rn) (4 * n)).2).past, ?_, fun r hr => ?_, base ?_ rfl,
      ?_, ?_, ?_⟩
    · rw [exec_ldm1 hr.1 hn hl, Exec.bind_of_ok hload, h15, if_neg Bool.false_ne_true]
      exact finish_advance endLoadBlock_pc hr.2
    · exact listed (u := State.past _) endLoadBlock_mode rfl
        (fun e => by subst e; exact absurd (hr.symm.trans h15) (by decide)) hr
    · exact endLoadBlock_mode
    · exact congrArg (· + 4) endLoadBlock_pc
    · exact endLoadBlock_cpsr
    · exact endLoadBlock_mem
  case ldm1pc =>
    have hlast : vs.getLastD 0 = v := getLastD_of_rank hlen h15 ((hword 15 h15).symm.trans hv)
    have harch : (endLoadBlock s wb rn list vs (mode4 am (s.readReg rn) (4 * n)).2).arch = s.arch :=
      congrArg Params.arch endLoadBlock_params
    have hexec : exec (.ldm1 c am wb rn list) s =
        finish s (loadPc (endLoadBlock s wb rn list vs (mode4 am (s.readReg rn) (4 * n)).2) v) := by
      rw [exec_ldm1 hr.1 hn hl, Exec.bind_of_ok hload, h15, if_pos rfl, hlast]
    rw [hexec, loadPc, harch]
    cases h5 : s.arch.atLeastV5 with
    | true =>
      rw [if_pos rfl, branchExchange_of_ne (hx h5)]
      have hmode := mode_congr (s := s) (t := { (endLoadBlock s wb rn list vs (mode4 am (s.readReg rn) (4 * n)).2) with
        cpsr := psrThumb (endLoadBlock s wb rn list vs (mode4 am (s.readReg rn) (4 * n)).2).cpsr (v.getLsbD 0)
        pc := v &&& 0xFFFFFFFE }) ((psrMode_psrThumb ..).trans (congrArg psrMode endLoadBlock_cpsr))
      exact ⟨_, rfl, fun r hr15 hr hb => listed hmode rfl hr15 hr hb, base hmode rfl,
        ⟨rfl, congrArg (psrThumb · _) endLoadBlock_cpsr⟩, endLoadBlock_mem⟩
    | false =>
      have hmode := mode_congr (s := s) (t := { (endLoadBlock s wb rn list vs (mode4 am (s.readReg rn) (4 * n)).2) with
        pc := v &&& 0xFFFFFFFC }) (congrArg psrMode endLoadBlock_cpsr)
      exact ⟨_, rfl, fun r hr15 hr hb => listed hmode rfl hr15 hr hb, base hmode rfl, ⟨rfl, endLoadBlock_cpsr⟩,
        endLoadBlock_mem⟩
  case ldm2 =>
    subst hlow
    refine ⟨((s.writeRegs .usr ((listRegs (low.setWidth 16)).zip vs)).armHazard).past, ?_, fun k hk => ?_, ?_, ?_, ?_,
      ?_⟩
    · rw [exec_ldm2 hr.1 hn hl (hasSpsr_of_ne hu hs), Exec.bind_of_ok hload]
      exact finish_advance (by simp) hr.2
    · have hk16 : (BitVec.ofNat 4 k.val).toNat = k.val := by
        rw [BitVec.toNat_ofNat]
        exact Nat.mod_eq_of_lt (by omega)
      have hphys : physReg .usr (BitVec.ofNat 4 k.val) = some (.usr k) := physReg_usr_ofNat k
      rw [← hk16] at hk
      obtain ⟨v, hv, hvs⟩ := value hk
      rw [hv]
      change some v = some (RegFile.get (State.armHazard _).regs (.usr k))
      rw [State.armHazard_regs]
      exact congrArg some (readPhys_listed hlen hk hvs hphys).symm
    · change (State.armHazard _).bankHazard = _
      rw [State.armHazard_bankHazard, State.isV6, State.writeRegs_params, State.writeRegs_bankHazard]
      rfl
    · simp [State.past]
    · simp [State.past]
    · simp [State.past]

/-! ### Returns from an exception -/

/-- R590: the CPSR and the pc of a return that goes through. -/
theorem return_of {psr : Word} (hret : s.returnsTo psr v) (hpar : t.params = s.params) :
    (returnCpsr t psr >>= fun u => returnTo u v) = .ok { t with cpsr := psr, pc := v } := by
  obtain ⟨hun, hmode, hal⟩ := hret
  have harch : t.arch = s.arch := congrArg Params.arch hpar
  rw [Exec.bind_of_ok ((returnCpsr_ok t _ psr).mpr ⟨by rwa [harch], hmode, rfl⟩), returnTo]
  change (if psr.getLsbD 5 = true then _ else _) = _
  split
  next => rfl
  next hT => exact (branchArm_ok ..).mpr ⟨hal (Bool.eq_false_iff.mpr hT), rfl⟩

theorem readRegIn_congr {u : State} {m : Mode} (hregs : u.regs = t.regs) (h15 : r ≠ 15) :
    u.readRegIn m r = t.readRegIn m r := by
  obtain ⟨p, hp⟩ := physReg_of_ne m h15
  rw [readRegIn_of_phys hp, readRegIn_of_phys hp, State.readPhys, State.readPhys, hregs]

/-- A register but R15 does not read the pc or, in a mode named, the CPSR. -/
theorem readRegIn_moved {m : Mode} {psr : Word} (h15 : r ≠ 15) :
    ({ t with cpsr := psr, pc := v } : State).readRegIn m r = t.readRegIn m r :=
  readRegIn_congr (u := { t with cpsr := psr, pc := v }) rfl h15

/-- Settles O48. -/
theorem returnResults : Obligations.ReturnResults := by
  unfold Obligations.ReturnResults
  intro c am wb rn low s hc hn
  refine ⟨?_, ?_⟩
  · intro list n start a hal hend hw v hv psr hpsr hret
    obtain ⟨vs, hload, hlen, hword⟩ := loadBlock_of hal hend hw
    have h15 : list.getLsbD 15 = true := by
      change (1#1 ++ low).getLsbD 15 = true
      rw [BitVec.getLsbD_append]
      rfl
    have hlast : vs.getLastD 0 = v := getLastD_of_rank hlen h15 ((hword 15 h15).symm.trans hv)
    refine ⟨{ endLoadBlock s wb rn list vs (mode4 am (s.readReg rn) (4 * n)).2 with cpsr := psr, pc := v }, ?_, rfl,
      rfl, endLoadBlock_spsr, endLoadBlock_mem, fun r hr15 hr hb => ?_, fun hwb hl => ?_⟩
    · rw [exec_ldm3 hc hn hpsr, Exec.bind_of_ok hload, hlast]
      exact finish_ok (return_of hret endLoadBlock_params)
    · have hlt : listRank list r < vs.length := by rw [hlen]; exact listRank_lt hr
      have hvs := List.getElem?_eq_getElem hlt
      refine ((hword r hr).trans hvs).trans (congrArg some ?_)
      exact ((readRegIn_moved hr15).trans (endLoadBlock_listed hlen hr15 hr hvs hb)).symm
    · subst hwb
      exact (readRegIn_moved hn).trans (endLoadBlock_base hn hl)
  · intro start a hm hal hend v hv psr hpsr hret
    have hmap : s.mappedBytes a (4 * 2) = true :=
      (mappedBytes_add s a 4).mpr ⟨mappedBytes_of_wordAt hv, mappedBytes_of_wordAt hpsr⟩
    have hbase : s.writeBaseIf wb rn (mode4 am (s.readReg rn) 8).2 =
        s.writeBack rn (if wb then some (mode4 am (s.readReg rn) 8).2 else none) := by cases wb <;> rfl
    rw [exec_rfe hn hm, Exec.bind_of_ok (blockStart_of hal hend hmap), Exec.bind_of_ok ((memWord_iff ..).mpr hv),
      Exec.bind_of_ok ((memWord_iff ..).mpr hpsr), hbase]
    exact finish_ok (return_of hret (State.writeBack_params ..))

/-! ### Stores of a list -/

theorem storeBlock_of (hal : low2 (mode4 am (s.readReg rn) (4 * (listRegs list).length)).1 = 0 ∨
      (s.alignA = false ∧ s.alignU = false))
    (hend : ((mode4 am (s.readReg rn) (4 * (listRegs list).length)).1 &&& 0xFFFFFFFC).toNat + 4 * (listRegs list).length
      ≤ 2 ^ 32)
    (hm : s.mappedBytes ((mode4 am (s.readReg rn) (4 * (listRegs list).length)).1 &&& 0xFFFFFFFC)
      (4 * (listRegs list).length) = true) :
    storeBlock s am rn list vs =
      .ok (s.storeWords ((mode4 am (s.readReg rn) (4 * (listRegs list).length)).1 &&& 0xFFFFFFFC) vs) :=
  (storeBlock_ok ..).mpr ⟨_, blockStart_of hal hend hm, rfl⟩

theorem listRegs_length_le (list : BitVec 16) : (listRegs list).length ≤ 16 := by
  rw [listRegs, List.length_map]
  exact (List.length_filter_le ..).trans List.length_range.le

/-- The word stored for each register of a list reads back at its rank. -/
theorem wordAt_storeList (f : Reg → Word) (hm : s.mappedBytes a (4 * (listRegs list).length) = true)
    (hr : list.getLsbD r.toNat = true) :
    (s.storeWords a ((listRegs list).map f)).wordAt (slotOf a list r) = some (f r) := by
  have hlen := listRegs_length_le list
  refine wordAt_storeWords _ (by rw [List.length_map]; omega) (by rwa [List.length_map]) ?_
  rw [List.getElem?_map, listRegs_getElem?_rank hr]
  rfl

/-- R456: the base stores a free value when it is written back and is not the lowest register. -/
theorem stmWord_eq (hr : list.getLsbD r.toNat = true) :
    stmWord s wb rn list r =
      if wb = true ∧ r = rn ∧ listRank list rn ≠ 0 then s.free else s.storedReg s.mode r := by
  have hcond : (wb && r == rn && (listRegs list).head? != some rn) = true ↔
      wb = true ∧ r = rn ∧ listRank list rn ≠ 0 := by
    rw [Bool.and_eq_true, Bool.and_eq_true, beq_iff_eq, bne_iff_ne, and_assoc]
    refine and_congr_right fun _ => and_congr_right fun e => not_congr ?_
    subst e
    exact head?_listRegs hr
  by_cases h : wb = true ∧ r = rn ∧ listRank list rn ≠ 0
  · exact (if_pos (hcond.mpr h)).trans (if_pos h).symm
  · exact (if_neg (mt hcond.mp h)).trans (if_neg h).symm

/-- A free value drawn by STM (1) moves only the count of free values. -/
theorem stmDrawn_eq (t : State) : stmDrawn t wb rn list =
    { t with freeCount := (stmDrawn t wb rn list).freeCount } := by
  unfold stmDrawn
  split <;> rfl

theorem readReg_writeBaseIf (hn : rn ≠ 15) : (t.writeBaseIf wb rn v).readReg rn = if wb then v else t.readReg rn := by
  cases wb with
  | false => rfl
  | true => exact (State.readReg_writeReg ..).trans (if_pos ⟨rfl, hn⟩)

/-- The base of SRS written back, or not. -/
def srsBase (t : State) (m : Mode) (wb : Bool) (v : Word) : State := if wb then t.writeRegIn m 13 v else t

theorem srsBase_readRegIn (t : State) (m : Mode) (wb : Bool) (v : Word) :
    (srsBase t m wb v).past.readRegIn m 13 = if wb then v else t.readRegIn m 13 := by
  have h13 : (13 : Reg) ≠ 15 := by decide
  obtain ⟨p, hp⟩ := physReg_of_ne m h13
  refine Eq.trans (readRegIn_moved h13) ?_
  cases wb with
  | false => rfl
  | true => exact (readRegIn_of_phys hp).trans ((State.readPhys_writeRegIn ..).trans (if_pos hp))

/-- Writing back the base of SRS moves no memory, no status bit and not the pc. -/
theorem srsBase_rest (t : State) (m : Mode) (wb : Bool) (v : Word) :
    (srsBase t m wb v).pc = t.pc ∧ (srsBase t m wb v).cpsr = t.cpsr ∧ (srsBase t m wb v).mem = t.mem ∧
      (srsBase t m wb v).params = t.params := by
  unfold srsBase
  split <;> simp

/-- Settles O49. -/
theorem storeMultipleResults : Obligations.StoreMultipleResults := by
  unfold Obligations.StoreMultipleResults
  intro c am wb rn list s hpc
  refine ⟨?_, ?_⟩
  · intro hc hn hl n start a hal hend hm
    refine ⟨?_, fun hu hs => ?_⟩
    · refine ⟨(stmDrawn ((s.storeWords a ((listRegs list).map (stmWord s wb rn list))).writeBaseIf wb rn
        (listAddress s am rn list).2) wb rn list).past, ?_, fun r hr => ?_, ?_, ?_, ?_⟩
      · rw [exec_stm1 hc hn hl, Exec.bind_of_ok (storeBlock_of hal hend hm)]
        exact finish_advance (by rw [stmDrawn_eq]; simp) hpc
      · rw [← stmWord_eq hr, ← wordAt_storeList (stmWord s wb rn list) hm hr, stmDrawn_eq]
        exact wordAt_congr (State.writeBaseIf_mem ..) (State.writeBaseIf_params ..) (State.writeBaseIf_cpsr ..) _
      · rw [readReg_past _ hn, stmDrawn_eq]
        change State.readReg (State.writeBaseIf ..) rn = _
        rw [readReg_writeBaseIf hn,
          readReg_congr (State.storeWords_regs ..) (State.storeWords_cpsr ..) (State.storeWords_pc ..)]
        rfl
      · rw [stmDrawn_eq]
        simp [State.past]
      · rw [stmDrawn_eq]
        simp [State.past]
    · refine ⟨(s.storeWords a ((listRegs list).map (s.storedReg .usr))).armHazard.past, ?_, fun r hr => ?_, ?_, ?_, ?_,
        ?_⟩
      · rw [exec_stm2 hc hn hl (hasSpsr_of_ne hu hs), Exec.bind_of_ok (storeBlock_of hal hend hm)]
        exact finish_advance (by simp) hpc
      · rw [← wordAt_storeList (s.storedReg .usr) hm hr]
        exact wordAt_congr (State.armHazard_mem ..) (State.armHazard_params ..) (State.armHazard_cpsr ..) _
      · simp [State.past]
      · change (State.armHazard _).bankHazard = _
        rw [State.armHazard_bankHazard, State.isV6, State.storeWords_params, State.storeWords_bankHazard]
        rfl
      · simp [State.past]
      · simp [State.past]
  · intro m psr hpsr start a hal hend hm
    have hword (k : Nat) (v : Word) (hk : [s.readReg 14, psr][k]? = some v) :
        (s.storeWords a [s.readReg 14, psr]).wordAt (a + BitVec.ofNat 32 (4 * k)) = some v :=
      wordAt_storeWords (vs := [s.readReg 14, psr]) (by rw [List.length_cons, List.length_singleton]; decide) hm hk
    obtain ⟨hpc', hcpsr', hmem', hpar'⟩ :=
      srsBase_rest (s.storeWords a [s.readReg 14, psr]) m wb (mode4 am (s.readRegIn m 13) 8).2
    have hnext : exec (.srs am wb m.code) s =
        .next (srsBase (s.storeWords a [s.readReg 14, psr]) m wb (mode4 am (s.readRegIn m 13) 8).2).past := by
      rw [exec_srs hpsr, Exec.bind_of_ok (blockStart_of hal hend hm)]
      exact finish_advance (hpc'.trans (State.storeWords_pc ..)) hpc
    refine ⟨_, hnext, ?_, ?_, (srsBase_readRegIn ..).trans ?_, ?_, hcpsr'.trans (State.storeWords_cpsr ..)⟩
    · rw [← hword 0 _ rfl, Nat.mul_zero, add_ofNat_zero]
      exact wordAt_congr hmem' hpar' hcpsr' a
    · rw [← hword 1 _ rfl]
      exact wordAt_congr hmem' hpar' hcpsr' _
    · rw [readRegIn_congr (State.storeWords_regs ..) (by decide)]
    · exact congrArg (· + 4) (hpc'.trans (State.storeWords_pc ..))

/-! ### A push and a pop (O50) -/

theorem storedReg_of_ne (h15 : r ≠ 15) : s.storedReg s.mode r = s.readReg r := by
  obtain ⟨p, hp⟩ := physReg_of_ne s.mode h15
  rw [State.storedReg, State.readReg, readRegIn_of_phys hp, hp]

/-- Each place of a transfer is the slot of a register of the list. -/
theorem exists_rank {k : Nat} (hk : k < (listRegs list).length) :
    ∃ r : Reg, list.getLsbD r.toNat = true ∧ listRank list r = k := by
  have hr : list.getLsbD (listRegs list)[k].toNat = true := mem_listRegs.mp (List.getElem_mem hk)
  refine ⟨_, hr, (List.getElem?_inj (listRank_lt hr) (listRegs_nodup list)).mp ?_⟩
  rw [listRegs_getElem?_rank hr, List.getElem?_eq_getElem hk]

/-- Settles O50: the words STMDB leaves are those LDMIA reads. -/
theorem stackRoundTrip : Obligations.StackRoundTrip := by
  unfold Obligations.StackRoundTrip
  intro rn list s hr hn hl h15 hrn hal n hle hm
  have hlen := listRegs_length_le list
  have hbound := (s.readReg rn).isLt
  have h4n : (BitVec.ofNat 32 (4 * n)).toNat = 4 * n := by
    rw [BitVec.toNat_ofNat]
    exact Nat.mod_eq_of_lt (by omega)
  generalize ha : s.readReg rn - BitVec.ofNat 32 (4 * n) = a at hm
  have hstart : a.toNat = (s.readReg rn).toNat - 4 * n := by
    rw [← ha, BitVec.toNat_sub_of_le (by rw [BitVec.le_def, h4n]; exact hle), h4n]
  have hlow : low2 a = 0 := by
    have h := (low_two_eq_zero_iff _).mp hal
    refine (low_two_eq_zero_iff _).mpr ?_
    omega
  have hmask : a &&& 0xFFFFFFFC = a := and_wordMask_of_low2 hlow
  have hdb : mode4 .db (s.readReg rn) (4 * n) = (a, a) := by rw [← ha]; rfl
  have hpush := (storeMultipleResults .al .db true rn list s hr.2).1 hr.1 hn hl
  dsimp only at hpush
  rw [show mode4 .db (s.readReg rn) (4 * (listRegs list).length) = (a, a) from hdb, hmask] at hpush
  obtain ⟨⟨t, ht, hslots, hbase, -, -⟩, -⟩ := hpush (.inl hlow) (by omega) hm
  refine ⟨t, ht, fun u hmem hpar hcpsr hreg hru => ?_⟩
  have hua : u.readReg rn = a := hreg.trans hbase
  have hpop := (loadMultipleResults .al .ia true rn list u hru hn hl)
  rw [hua] at hpop
  have hsaved {r : Reg} (hr : list.getLsbD r.toNat = true) : u.wordAt (slotOf a list r) = some (s.readReg r) := by
    have hne : r ≠ rn := fun e => by rw [e, hrn] at hr; cases hr
    have h15' : r ≠ 15 := fun e => by subst e; exact absurd (hr.symm.trans h15) (by decide)
    rw [wordAt_congr hmem hpar hcpsr, hslots r hr, if_neg fun h => hne h.2.1, storedReg_of_ne h15']
  have hwords : u.wordsAt a n = true := (wordsAt_iff ..).mpr fun k hk => by
    obtain ⟨r, hr, rfl⟩ := exists_rank hk
    exact Option.isSome_iff_exists.mpr ⟨_, hsaved hr⟩
  change low2 a = 0 ∨ _ → (a &&& 0xFFFFFFFC).toNat + 4 * n ≤ 2 ^ 32 → u.wordsAt (a &&& 0xFFFFFFFC) n = true → _ at hpop
  rw [hmask] at hpop
  obtain ⟨v, hv, hregs, hvn, -⟩ := (hpop (.inl hlow) (by omega) hwords).1 h15
  refine ⟨v, hv, (hvn rfl hrn).trans ?_, fun r hr => ?_⟩
  · exact (congrArg (· + BitVec.ofNat 32 (4 * n)) ha).symm.trans (BitVec.sub_add_cancel ..)
  · have hne : r ≠ rn := fun e => by rw [e, hrn] at hr; cases hr
    have hslot : u.wordAt (slotOf (a &&& 0xFFFFFFFC) list r) = some (v.readReg r) := hregs r hr fun _ => hne
    rw [hmask, hsaved hr] at hslot
    exact (Option.some.inj hslot).symm

end Sys2Proof.Machine
end

section
/-! The coprocessor instructions and the Undefined Instruction exception (O19, O57). -/

namespace Sys2Proof.Machine

variable {c : Cond} {rn rd : Reg} {cp : BitVec 4} {am : Mode5} {off : BitVec 8} {s : State} {u : CoprocUnit} {n : Nat}
  {w a : Word} {acc : Access}

/-! ### Both forms of each instruction are one body -/

section Forms
variable {two : Bool} (hc : two = false → conditionPassed c s = true)
include hc

theorem exec_cdp_forms (op1 : BitVec 4) (crn crd : Reg) (cp : BitVec 4) (op2 : BitVec 3) (crm : Reg) :
    let i : Instr := if two then .cdp2 op1 crn crd cp op2 crm else .cdp c op1 crn crd cp op2 crm
    exec i s = finish s (cdpBody s cp (encode i)) := by
  cases two with
  | false => exact finish_conditional_of_pass (hc rfl)
  | true => rfl

theorem exec_ldc_forms (am : Mode5) (long : Bool) (rn crd : Reg) (cp : BitVec 4) (off : BitVec 8) :
    let i : Instr := if two then .ldc2 am long rn crd cp off else .ldc c am long rn crd cp off
    exec i s = finish s (ldcBody s am rn cp off (encode i)) := by
  cases two with
  | false => exact finish_conditional_of_pass (hc rfl)
  | true => rfl

theorem exec_stc_forms (am : Mode5) (long : Bool) (rn crd : Reg) (cp : BitVec 4) (off : BitVec 8) :
    let i : Instr := if two then .stc2 am long rn crd cp off else .stc c am long rn crd cp off
    exec i s = finish s (stcBody s am rn cp off (encode i)) := by
  cases two with
  | false => exact finish_conditional_of_pass (hc rfl)
  | true => rfl

theorem exec_mcr_forms (op1 : BitVec 3) (crn rd : Reg) (cp : BitVec 4) (op2 : BitVec 3) (crm : Reg) :
    let i : Instr := if two then .mcr2 op1 crn rd cp op2 crm else .mcr c op1 crn rd cp op2 crm
    exec i s = finish s (mcrBody s rd cp (encode i)) := by
  cases two with
  | false => exact finish_conditional_of_pass (hc rfl)
  | true => rfl

theorem exec_mrc_forms (op1 : BitVec 3) (crn rd : Reg) (cp : BitVec 4) (op2 : BitVec 3) (crm : Reg) :
    let i : Instr := if two then .mrc2 op1 crn rd cp op2 crm else .mrc c op1 crn rd cp op2 crm
    exec i s = finish s (mrcBody s rd cp (encode i)) := by
  cases two with
  | false => exact finish_conditional_of_pass (hc rfl)
  | true => rfl

theorem exec_mcrr_forms (rn rd : Reg) (cp op : BitVec 4) (crm : Reg) :
    let i : Instr := if two then .mcrr2 rn rd cp op crm else .mcrr c rn rd cp op crm
    exec i s = finish s (mcrrBody s rn rd cp (encode i)) := by
  cases two with
  | false => exact finish_conditional_of_pass (hc rfl)
  | true => rfl

theorem exec_mrrc_forms (rn rd : Reg) (cp op : BitVec 4) (crm : Reg) :
    let i : Instr := if two then .mrrc2 rn rd cp op crm else .mrrc c rn rd cp op crm
    exec i s = finish s (mrrcBody s rn rd cp (encode i)) := by
  cases two with
  | false => exact finish_conditional_of_pass (hc rfl)
  | true => rfl

end Forms

theorem checkPair_bind {f : Unit → Exec State} (hd : rd ≠ 15) (hn : rn ≠ 15) (hne : rn ≠ rd) :
    (checkPair rn rd >>= f) = f () := by
  refine Exec.bind_of_ok ?_
  rw [checkPair, require_bind (by rw [bne_iff_ne.mpr hd, bne_iff_ne.mpr hn]; rfl)]
  exact (require_ok ..).mpr (bne_iff_ne.mpr hne)

/-! ### The bodies when the coprocessor accepts (O57) -/

/-- The words of a readable block, in order. -/
theorem memWords_eq (h : s.wordsAt a n = true) :
    memWords s a n = .ok ((List.range n).map (fun k => (s.wordAt (a + BitVec.ofNat 32 (4 * k))).getD 0)) := by
  obtain ⟨vs, hvs, hlen, hword⟩ := memWords_of_wordsAt h
  rw [hvs]
  refine congrArg _ (List.ext_getElem? fun k => ?_)
  rw [List.getElem?_map]
  by_cases hk : k < n
  · rw [List.getElem?_range hk, Option.map_some, hword k hk, List.getElem?_eq_getElem (by omega)]
    rfl
  · rw [List.getElem?_eq_none (by omega), List.getElem?_eq_none (by rw [List.length_range]; omega)]
    rfl

theorem setNZCV_eq (t : State) (n z c v : Bool) :
    t.setNZCV n z c v = { t with cpsr := psrFlags t.cpsr n z c v } := by
  rw [← withBit_flags]
  rfl

/-- Settles O57: each form is one body, which asks the coprocessor and leaves its new state. -/
theorem coprocessorResults : Obligations.CoprocessorResults := by
  unfold Obligations.CoprocessorResults
  intro two c cp op1 op3 op2 crn crd crm rn rd am long off s hpc hc u hu left
  have ask {w : Word} {n : Nat} (hn : u.words (psrMode s.cpsr) w = some n) : askCoproc s cp w = .ok (u, n) :=
    (askCoproc_ok ..).mpr ⟨hu, hn⟩
  refine ⟨?cdp, ?mcr, ?mcrr, ?mrc, ?mrrc, fun acc hacc hal => ⟨?ldc, ?stc⟩⟩
  case cdp =>
    rintro i rfl n hn
    rw [exec_cdp_forms hc, cdpBody, Exec.bind_of_ok (ask hn)]
    exact finish_advance rfl hpc
  case mcr =>
    rintro i rfl n hn hd
    rw [exec_mcr_forms hc, mcrBody, require_bind (bne_iff_ne.mpr hd), Exec.bind_of_ok (ask hn)]
    exact finish_advance rfl hpc
  case mcrr =>
    rintro i rfl n hn hd hr hne
    rw [exec_mcrr_forms hc, mcrrBody, checkPair_bind hd hr hne, Exec.bind_of_ok (ask hn)]
    exact finish_advance rfl hpc
  case mrc =>
    rintro i rfl n hn r
    have hbody : mrcBody s rd cp (encode (if two then .mrc2 op3 crn rd cp op2 crm else .mrc c op3 crn rd cp op2 crm)) =
        if rd = 15 then advance
          ((left s r.2).setNZCV (r.1.getLsbD 31) (r.1.getLsbD 30) (r.1.getLsbD 29) (r.1.getLsbD 28))
        else advance ((left s r.2).writeReg rd r.1) := by
      rw [mrcBody, Exec.bind_of_ok (ask hn)]
    rw [exec_mrc_forms hc, hbody]
    split
    next =>
      rw [setNZCV_eq]
      exact finish_advance rfl hpc
    next =>
      have hcpsr : s.cpsr = (left s r.2).cpsr := rfl
      rw [hcpsr, State.result_self]
      exact finish_advance (State.writeReg_pc ..) hpc
  case mrrc =>
    rintro i rfl n hn hd hr hne r
    rw [exec_mrrc_forms hc, mrrcBody, checkPair_bind hd hr hne, Exec.bind_of_ok (ask hn)]
    exact finish_advance ((State.writeReg_pc ..).trans (State.writeReg_pc ..)) hpc
  case ldc =>
    rintro i rfl n hn hw
    rw [exec_ldc_forms hc, ldcBody, Exec.bind_of_ok hacc, Exec.bind_of_ok (ask hn)]
    dsimp only
    rw [Exec.bind_of_ok (multipleStart_of hal), Exec.bind_of_ok ((checkWords_ok ..).mpr (mappedBytes_of_wordsAt hw)),
      Exec.bind_of_ok (memWords_eq hw)]
    exact finish_advance (State.writeBack_pc ..) hpc
  case stc =>
    rintro i rfl n hn hm
    rw [exec_stc_forms hc, stcBody, Exec.bind_of_ok hacc, Exec.bind_of_ok (ask hn)]
    dsimp only
    rw [Exec.bind_of_ok (multipleStart_of hal), Exec.bind_of_ok ((checkWords_ok ..).mpr hm)]
    exact finish_advance ((State.writeBack_pc ..).trans (State.storeWords_pc ..)) hpc

/-! ### The Undefined Instruction exception (O19) -/

theorem finish_undefined (h : s.entryOpen) :
    finish s (.error .undefinedInstruction) = .next (enterException .undefinedInstruction s) :=
  takeException_of_entryOpen h

/-- R192 (a): bits 27:20 all one but the highest, bits 7:4 all one. -/
theorem decode_undefinedPattern (arch : Arch) (c : Cond) (mid : BitVec 12) (low : BitVec 4) :
    decode arch (c.code ++ (0x7F#8 ++ (mid ++ (0xF#4 ++ low)))) = .undefinedPattern c := by
  have hword : c.code ++ (0x7F#8 ++ (mid ++ (0xF#4 ++ low))) =
      joinWord ⟨c.code, false, true, true, true, true, true, true,
      true, mid.extractLsb' 8 4, mid.extractLsb' 4 4, mid.extractLsb' 0 4, true, true, true, true, low⟩ := by
    apply BitVec.eq_of_getLsbD_eq
    intro j hj
    simp only [joinWord, nib, BitVec.getLsbD_append, BitVec.getLsbD_ofBool, BitVec.getLsbD_extractLsb']
    interval_cases j <;> simp
  rw [hword, decode, splitWord_joinWord, decodeFields_conditional rfl]
  rfl

theorem askCoproc_of_rejects {i : Instr} (h : s.coprocRejects cp i) :
    askCoproc s cp (encode i) = .error .undefinedInstruction := by
  unfold State.coprocRejects at h
  rw [askCoproc_error]
  split at h
  next habs =>
    refine .inl ⟨habs, (if_neg ?_).symm⟩
    rcases h with h6 | hlt
    · rw [h6, Bool.false_and]
      exact Bool.false_ne_true
    · rw [decide_eq_false (by omega), Bool.and_false]
      exact Bool.false_ne_true
  next u hu => exact .inr ⟨u, hu, h, rfl⟩

theorem askCoproc_of_undescribed (habs : s.coproc[cp.toFin] = .absent) (h6 : s.isV6 = true) (h14 : 14 ≤ cp.toNat) :
    askCoproc s cp w = .error (.refuse (.coprocessorUndescribed cp.toNat)) :=
  (askCoproc_error ..).mpr (.inl ⟨habs, (if_pos (by rw [h6, decide_eq_true h14]; rfl)).symm⟩)

theorem address5_of_ne (hn : rn ≠ 15) : ∃ acc, address5 s am rn off = .ok acc :=
  ⟨_, (address5_ok ..).mpr ⟨fun _ => hn, rfl⟩⟩

/-- Settles O19. -/
theorem undefinedTaken : Obligations.UndefinedTaken := by
  unfold Obligations.UndefinedTaken
  intro c s
  refine ⟨fun a mid low => decode_undefinedPattern a c mid low, ?step, ?odd, ?coproc⟩
  case step =>
    intro hs hi harm hz hopen hwr w hw hd
    have hstep : stepAwake s = undefinedOutcome c s := by
      rw [stepAwake_of_inArm hs hi harm, runFetched, fetch_of_fetchedWord hw hwr, hd]
      rfl
    refine ⟨fun hc => step_takeException hz hopen (hstep.trans (finish_conditional_of_pass hc)), fun hc hpc => ?_⟩
    exact step_of_stepAwake hz (hstep.trans (finish_conditional_of_fail _ hpc hc)) hz
  case odd =>
    intro hc hopen ix up rn rd off hodd
    have hcheck {w : Bool} : checkDouble w rn rd = .error .undefinedInstruction := if_pos hodd
    exact ⟨(finish_conditional_of_pass hc).trans
      ((congrArg _ (Exec.bind_of_error hcheck)).trans (finish_undefined hopen)),
      (finish_conditional_of_pass hc).trans ((congrArg _ (Exec.bind_of_error hcheck)).trans (finish_undefined hopen))⟩
  case coproc =>
    intro two cp op1 op3 op2 crn crd crm rn rd am long off hc hd hn hne i hi
    have herr {e : Stop} (h : askCoproc s cp (encode i) = .error e) : exec i s = finish s (.error e) := by
      obtain ⟨acc, hacc⟩ := address5_of_ne (s := s) (am := am) (off := off) hn
      simp only [List.mem_cons, List.not_mem_nil, or_false] at hi
      rcases hi with rfl | rfl | rfl | rfl | rfl | rfl | rfl
      · rw [exec_cdp_forms hc, cdpBody, Exec.bind_of_error h]
      · rw [exec_ldc_forms hc, ldcBody, Exec.bind_of_ok hacc, Exec.bind_of_error h]
      · rw [exec_stc_forms hc, stcBody, Exec.bind_of_ok hacc, Exec.bind_of_error h]
      · rw [exec_mcr_forms hc, mcrBody, require_bind (bne_iff_ne.mpr hd), Exec.bind_of_error h]
      · rw [exec_mrc_forms hc, mrcBody, Exec.bind_of_error h]
      · rw [exec_mcrr_forms hc, mcrrBody, checkPair_bind hd hn hne, Exec.bind_of_error h]
      · rw [exec_mrrc_forms hc, mrrcBody, checkPair_bind hd hn hne, Exec.bind_of_error h]
    exact ⟨fun hopen h => (herr (askCoproc_of_rejects h)).trans (finish_undefined hopen),
      fun habs h6 h14 => herr (askCoproc_of_undescribed habs h6 h14)⟩

end Sys2Proof.Machine
end

section
/-! The Data Abort of every load and store (O18). -/

namespace Sys2Proof.Machine

variable {c : Cond} {rd rn rm : Reg} {s : State} {a : Word} {acc : Access} {n : Nat} {up : Bool}

/-! ### Parts of a body that abort -/

theorem finish_dataAbort (h : s.entryOpen) {body : Exec State} (hb : body = .error .dataAbort) :
    finish s body = .next (enterException .dataAbort s) := by
  rw [hb]
  exact takeException_of_entryOpen h

theorem memByte_aborts (h : s.mapped a = false) : memByte s a = .error .dataAbort :=
  if_neg (by rw [h]; exact Bool.false_ne_true)

theorem memByte_of_isSome (h : (s.dataByte a).isSome = true) : ∃ b, memByte s a = .ok b := by
  obtain ⟨b, hb⟩ := Option.isSome_iff_exists.mp h
  exact ⟨b, (memByte_iff ..).mpr hb⟩

theorem memWord_aborts (h : s.readAborts a 4) : memWord s a = .error .dataAbort := by
  obtain ⟨k, hk, hbad, hgood⟩ := h
  have fails := memByte_aborts hbad
  have reads (j : Nat) (hj : j < k) := memByte_of_isSome (hgood j hj)
  unfold memWord
  interval_cases k
  · rw [add_ofNat_zero] at fails
    exact Exec.bind_of_error fails
  · obtain ⟨b0, h0⟩ := reads 0 (by decide)
    rw [add_ofNat_zero] at h0
    rw [Exec.bind_of_ok h0]
    exact Exec.bind_of_error fails
  · obtain ⟨b0, h0⟩ := reads 0 (by decide)
    obtain ⟨b1, h1⟩ : ∃ b, memByte s (a + 1) = .ok b := reads 1 (by decide)
    rw [add_ofNat_zero] at h0
    rw [Exec.bind_of_ok h0, Exec.bind_of_ok h1]
    exact Exec.bind_of_error fails
  · obtain ⟨b0, h0⟩ := reads 0 (by decide)
    obtain ⟨b1, h1⟩ : ∃ b, memByte s (a + 1) = .ok b := reads 1 (by decide)
    obtain ⟨b2, h2⟩ : ∃ b, memByte s (a + 2) = .ok b := reads 2 (by decide)
    rw [add_ofNat_zero] at h0
    rw [Exec.bind_of_ok h0, Exec.bind_of_ok h1, Exec.bind_of_ok h2]
    exact Exec.bind_of_error fails

theorem memHalf_aborts (h : s.readAborts a 2) : memHalf s a = .error .dataAbort := by
  obtain ⟨k, hk, hbad, hgood⟩ := h
  have fails := memByte_aborts hbad
  unfold memHalf
  interval_cases k
  · rw [add_ofNat_zero] at fails
    exact Exec.bind_of_error fails
  · obtain ⟨b0, h0⟩ := memByte_of_isSome (hgood 0 (by decide))
    rw [add_ofNat_zero] at h0
    rw [Exec.bind_of_ok h0]
    exact Exec.bind_of_error fails

theorem memWrite_aborts {vs : List Byte} (h : s.mappedBytes a vs.length = false) : memWrite s a vs =
    .error .dataAbort :=
  if_neg (by rw [h]; exact Bool.false_ne_true)

theorem checkWords_aborts (h : s.mappedBytes a (4 * n) = false) : checkWords s a n = .error .dataAbort :=
  if_neg (by rw [h]; exact Bool.false_ne_true)

/-! ### By the classes of R100 -/

theorem loadWord_aborts (h : (low2 a ≠ 0 ∧ s.alignA = true) ∨
      s.readAborts (if s.alignU then a else a &&& 0xFFFFFFFC) 4) :
    loadWord s a = .error .dataAbort := by
  unfold loadWord
  by_cases h0 : low2 a = 0
  · rw [and_wordMask_of_low2 h0, ite_self] at h
    rw [if_pos h0]
    exact memWord_aborts (h.resolve_left fun h => h.1 h0)
  · rw [if_neg h0]
    cases hA : s.alignA with
    | true => rfl
    | false =>
      have habs := h.resolve_left fun h => by rw [hA] at h; exact Bool.false_ne_true h.2
      rw [if_neg Bool.false_ne_true]
      cases hU : s.alignU with
      | true =>
        rw [hU, if_pos rfl] at habs
        exact memWord_aborts habs
      | false =>
        rw [hU, if_neg Bool.false_ne_true] at habs
        exact Exec.bind_of_error (memWord_aborts habs)

theorem storeWordFrom_aborts (h : (low2 acc.address ≠ 0 ∧ s.alignA = true) ∨
      s.mappedBytes (if s.alignU then acc.address else acc.address &&& 0xFFFFFFFC) 4 = false) :
    storeWordFrom s rn rd acc = .error .dataAbort := by
  unfold storeWordFrom
  by_cases hchecked : low2 acc.address ≠ 0 ∧ s.alignA = true
  · refine Exec.bind_of_error ?_
    rw [storeWordAddress, if_neg hchecked.1, hchecked.2]
    rfl
  · have hal : low2 acc.address = 0 ∨ s.alignA = false := by
      by_cases h0 : low2 acc.address = 0
      · exact .inl h0
      · exact .inr (Bool.eq_false_iff.mpr fun hA => hchecked ⟨h0, hA⟩)
    have hwrite : memWriteWord s (if s.alignU then acc.address else acc.address &&& 0xFFFFFFFC)
        (s.storedReg s.mode rd) = .error .dataAbort :=
      memWrite_aborts (by rw [wordBytes_length]; exact h.resolve_left hchecked)
    rw [Exec.bind_of_ok (storeWordAddress_of hal), Exec.bind_of_error hwrite]

theorem storeByteFrom_aborts (h : s.mapped acc.address = false) : storeByteFrom s rn rd acc = .error .dataAbort :=
  Exec.bind_of_error (memWrite_aborts ((mappedBytes_one ..).trans h))

theorem loadHalf_aborts (h : (a.getLsbD 0 = true ∧ s.alignA = true) ∨
      ((a.getLsbD 0 = false ∨ s.alignU = true) ∧ s.readAborts a 2)) : loadHalf s a = .error .dataAbort := by
  unfold loadHalf
  cases h0 : a.getLsbD 0 with
  | false => exact memHalf_aborts (h.resolve_left fun h => by rw [h0] at h; exact Bool.false_ne_true h.1).2
  | true =>
    rw [if_neg Bool.true_eq_false.mp]
    cases hA : s.alignA with
    | true => rfl
    | false =>
      obtain ⟨hal, habs⟩ := h.resolve_left fun h => by rw [hA] at h; exact Bool.false_ne_true h.2
      rw [hal.resolve_left (by rw [h0]; exact Bool.true_eq_false.mp)]
      exact memHalf_aborts habs

theorem halfStore_aborts {vs : List Byte} {f : State → Exec State} (hlen : vs.length = 2)
    (h : (a.getLsbD 0 = true ∧ s.alignA = true) ∨
      ((a.getLsbD 0 = false ∨ s.alignU = true) ∧ s.mappedBytes a 2 = false)) :
    (checkHalfStore s a >>= fun _ => memWrite s a vs >>= f) = .error .dataAbort := by
  by_cases hchecked : a.getLsbD 0 = true ∧ s.alignA = true
  · refine Exec.bind_of_error ?_
    rw [checkHalfStore, hchecked.1, hchecked.2]
    rfl
  · obtain ⟨hal, habs⟩ := h.resolve_left hchecked
    have hok : checkHalfStore s a = .ok () := (checkHalfStore_ok ..).mpr <| by
      cases h0 : a.getLsbD 0 with
      | false => exact .inl rfl
      | true =>
        exact .inr
          ⟨Bool.eq_false_iff.mpr fun hA => hchecked ⟨h0, hA⟩,
            hal.resolve_left (by rw [h0]; exact Bool.true_eq_false.mp)⟩
    rw [Exec.bind_of_ok hok]
    exact Exec.bind_of_error (memWrite_aborts (by rwa [hlen]))

/-- The two checks LDRD and STRD make before any access. -/
theorem doubleChecks_abort {α : Type} {f : Unit → Exec α}
    (h : if a.toNat % (if s.alignU then 4 else 8) ≠ 0 then s.alignA = true else s.mappedBytes a 8 = false) :
    (checkDoubleAligned s a >>= fun _ => checkWords s a 2 >>= f) = .error .dataAbort := by
  by_cases hmis : a.toNat % (if s.alignU then 4 else 8) ≠ 0
  · rw [if_pos hmis] at h
    refine Exec.bind_of_error ?_
    rw [checkDoubleAligned, doubleMisaligned_eq, decide_eq_true hmis, h]
    rfl
  · rw [if_neg hmis] at h
    have hok : checkDoubleAligned s a = .ok () :=
      (checkDoubleAligned_ok ..).mpr ((doubleMisaligned_eq ..).trans (decide_eq_false hmis))
    rw [Exec.bind_of_ok hok]
    exact Exec.bind_of_error (checkWords_aborts h)

theorem alignOr_of (h : s.alignA = true ∨ s.alignU = true) : (s.alignA || s.alignU) = true := (Bool.or_eq_true ..).mpr h

theorem alignOff_of (h : ¬ (low2 a ≠ 0 ∧ (s.alignA = true ∨ s.alignU = true))) :
    low2 a = 0 ∨ (s.alignA = false ∧ s.alignU = false) := by
  by_cases h0 : low2 a = 0
  · exact .inl h0
  · exact .inr ⟨Bool.eq_false_iff.mpr fun hA => h ⟨h0, .inl hA⟩, Bool.eq_false_iff.mpr fun hU => h ⟨h0, .inr hU⟩⟩

theorem checkExclusive_aborts (h : low2 a ≠ 0 ∧ (s.alignA = true ∨ s.alignU = true)) :
    checkExclusive s a = .error .dataAbort := by
  rw [checkExclusive, if_neg h.1, if_pos (alignOr_of h.2)]

theorem swapAddress_aborts (h : low2 a ≠ 0 ∧ (s.alignA = true ∨ s.alignU = true)) :
    swapAddress s a = .error .dataAbort := by
  rw [swapAddress, if_neg h.1, if_pos (alignOr_of h.2)]

theorem multipleStart_aborts (h : low2 a ≠ 0 ∧ (s.alignA = true ∨ s.alignU = true)) :
    multipleStart s a = .error .dataAbort := by
  rw [multipleStart, if_neg h.1, if_pos (alignOr_of h.2)]

theorem blockStart_aborts (h : s.blockAborts a n) : blockStart s a n = .error .dataAbort := by
  by_cases hmis : low2 a ≠ 0 ∧ (s.alignA = true ∨ s.alignU = true)
  · exact Exec.bind_of_error (multipleStart_aborts hmis)
  · obtain ⟨hend, hmap⟩ := h.resolve_left hmis
    rw [blockStart, Exec.bind_of_ok (multipleStart_of (alignOff_of hmis)), if_neg (by omega)]
    exact Exec.bind_of_error (checkWords_aborts hmap)

/-- The start and the map check of a coprocessor transfer. -/
theorem transferStart_aborts {α : Type} {f : Word → Exec α}
    (h : (low2 a ≠ 0 ∧ (s.alignA = true ∨ s.alignU = true)) ∨ s.mappedBytes (a &&& 0xFFFFFFFC) (4 * n) = false) :
    (multipleStart s a >>= fun b => checkWords s b n >>= fun _ => f b) = .error .dataAbort := by
  by_cases hmis : low2 a ≠ 0 ∧ (s.alignA = true ∨ s.alignU = true)
  · exact Exec.bind_of_error (multipleStart_aborts hmis)
  · rw [Exec.bind_of_ok (multipleStart_of (alignOff_of hmis))]
    exact Exec.bind_of_error (checkWords_aborts (h.resolve_left hmis))

theorem spsr_of_mode {m : Mode} (hu : m ≠ .usr) (hs : m ≠ .sys) : ∃ x, s.spsr.get m = some x := by
  cases m with
  | usr => exact absurd rfl hu
  | sys => exact absurd rfl hs
  | fiq | irq | svc | abt | und => exact ⟨_, rfl⟩

/-! ### The instructions, group by group -/

section
variable (hc : conditionPassed c s = true) (hopen : s.entryOpen)
include hc hopen

theorem wordAccess_aborts {ix : Index2} {off : Offset2} (hacc : address2 s ix up rn off = .ok acc) :
    let aborts (i : Instr) : Prop := exec i s = .next (enterException .dataAbort s)
    let a := acc.address
    let word : Word := if s.alignU then a else a &&& 0xFFFFFFFC
    let checked : Prop := low2 a ≠ 0 ∧ s.alignA = true
    let free : Prop := Index2.writes ix = true → rd ≠ rn
    (checked ∨ (s.readAborts word 4 ∧ (low2 a = 0 ∨ rd ≠ 15)) →
      (free → aborts (.ldr c ix up rn rd off)) ∧
      (ix = .post → rd ≠ rn → rd ≠ 15 → aborts (.ldrt c up rn rd off))) ∧
    (checked ∨ s.mappedBytes word 4 = false →
      (free → aborts (.str c ix up rn rd off)) ∧ (ix = .post → rd ≠ rn → aborts (.strt c up rn rd off))) ∧
    (rd ≠ 15 → s.mapped a = false →
      (free → aborts (.ldrb c ix up rn rd off) ∧ aborts (.strb c ix up rn rd off)) ∧
      (ix = .post → rd ≠ rn → aborts (.ldrbt c up rn rd off) ∧ aborts (.strbt c up rn rd off))) := by
  intro aborts a word checked free
  refine ⟨fun h => ?load, fun h => ?store, fun h15 hm => ?byte⟩
  case load =>
    have hload : loadWord s a = .error .dataAbort := loadWord_aborts (h.imp_right And.left)
    refine ⟨fun hfree => ?_, fun hix hne h15 => ?_⟩
    · have hpc : (rd = 15 && !s.alignA && low2 a != 0) = false := by
        rcases h with ⟨-, hA⟩ | ⟨-, h0 | h15⟩
        · rw [hA, Bool.not_true, Bool.and_false, Bool.false_and]
        · rw [h0, bne_self_eq_false, Bool.and_false]
        · rw [decide_eq_false h15, Bool.false_and, Bool.false_and]
      change exec _ s = _
      rw [exec_ldr hc hacc hfree, if_neg (by rw [hpc]; exact Bool.false_ne_true)]
      exact finish_dataAbort hopen (Exec.bind_of_error hload)
    · subst hix
      exact (exec_ldrt hc hacc hne h15).trans (finish_dataAbort hopen (Exec.bind_of_error hload))
  case store =>
    refine ⟨fun hfree => ?_, fun hix hne => ?_⟩
    · exact (exec_str hc hacc hfree).trans (finish_dataAbort hopen (storeWordFrom_aborts h))
    · subst hix
      exact (exec_strt hc hacc hne).trans (finish_dataAbort hopen (storeWordFrom_aborts h))
  case byte =>
    have hload : loadByteTo s rn rd acc zext = .error .dataAbort := Exec.bind_of_error (memByte_aborts hm)
    refine ⟨fun hfree => ⟨?_, ?_⟩, fun hix hne => ⟨?_, ?_⟩⟩
    · exact (exec_ldrb hc hacc hfree h15).trans (finish_dataAbort hopen hload)
    · exact (exec_strb hc hacc hfree h15).trans (finish_dataAbort hopen (storeByteFrom_aborts hm))
    · subst hix
      exact (exec_ldrbt hc hacc hne h15).trans (finish_dataAbort hopen hload)
    · subst hix
      exact (exec_strbt hc hacc hne h15).trans (finish_dataAbort hopen (storeByteFrom_aborts hm))

theorem mode3Access_aborts {ix : Index3} {off : Offset3} (hacc : address3 s ix up rn off = .ok acc) :
    let aborts (i : Instr) : Prop := exec i s = .next (enterException .dataAbort s)
    let a := acc.address
    let checked : Prop := a.getLsbD 0 = true ∧ s.alignA = true
    let able : Prop := a.getLsbD 0 = false ∨ s.alignU = true
    (rd ≠ 15 → (Index3.writes ix = true → rd ≠ rn) →
      (s.mapped a = false → aborts (.ldrsb c ix up rn rd off)) ∧
      (checked ∨ (able ∧ s.readAborts a 2) →
        aborts (.ldrh c ix up rn rd off) ∧ aborts (.ldrsh c ix up rn rd off)) ∧
      (checked ∨ (able ∧ s.mappedBytes a 2 = false) → aborts (.strh c ix up rn rd off))) ∧
    (rd.getLsbD 0 = false → rd ≠ 14 → (Index3.writes ix = true → rn ≠ rd ∧ rn ≠ rd + 1) →
      (if a.toNat % (if s.alignU then 4 else 8) ≠ 0 then s.alignA = true else s.mappedBytes a 8 = false) →
      (offsetInPair rd off = false → aborts (.ldrd c ix up rn rd off)) ∧ aborts (.strd c ix up rn rd off)) := by
  intro aborts a checked able
  refine ⟨fun h15 hfree => ⟨fun hm => ?_, fun h => ⟨?_, ?_⟩, fun h => ?_⟩, fun h0 h14 hfree h => ⟨fun hpair => ?_, ?_⟩⟩
  · exact (exec_ldrsb hc hacc hfree h15).trans (finish_dataAbort hopen (Exec.bind_of_error (memByte_aborts hm)))
  · exact (exec_ldrh hc hacc hfree h15).trans (finish_dataAbort hopen (Exec.bind_of_error (loadHalf_aborts h)))
  · exact (exec_ldrsh hc hacc hfree h15).trans (finish_dataAbort hopen (Exec.bind_of_error (loadHalf_aborts h)))
  · exact (exec_strh hc hacc hfree h15).trans (finish_dataAbort hopen (halfStore_aborts (halfBytes_length ..) h))
  · exact (exec_ldrd hc hacc h0 h14 hfree hpair).trans
      (finish_dataAbort hopen (Exec.bind_of_error (doubleChecks_abort h)))
  · exact (exec_strd hc hacc h0 h14 hfree).trans (finish_dataAbort hopen (doubleChecks_abort h))

theorem multiple_aborts {am : Mode4} {wb : Bool} {list : BitVec 16} (hn : rn ≠ 15) (hl : list ≠ 0)
    (h : s.blockAborts (mode4 am (s.readReg rn) (4 * (listRegs list).length)).1 (listRegs list).length) :
    let aborts (i : Instr) : Prop := exec i s = .next (enterException .dataAbort s)
    aborts (.ldm1 c am wb rn list) ∧ aborts (.stm1 c am wb rn list) ∧
    (s.mode ≠ .usr → s.mode ≠ .sys →
      aborts (.stm2 c am rn list) ∧
      (∀ low : BitVec 15, list = low.setWidth 16 → aborts (.ldm2 c am rn low)) ∧
      (∀ low : BitVec 15, list = 1#1 ++ low → aborts (.ldm3 c am wb rn low))) := by
  intro aborts
  have hload : loadBlock s am rn list = .error .dataAbort := Exec.bind_of_error (blockStart_aborts h)
  have hstore {vs : List Word} : storeBlock s am rn list vs = .error .dataAbort :=
    Exec.bind_of_error (blockStart_aborts h)
  refine ⟨?_, ?_, fun hu hs => ⟨?_, fun low hlow => ?_, fun low hlow => ?_⟩⟩
  · exact (exec_ldm1 hc hn hl).trans (finish_dataAbort hopen (Exec.bind_of_error hload))
  · exact (exec_stm1 hc hn hl).trans (finish_dataAbort hopen (Exec.bind_of_error hstore))
  · exact (exec_stm2 hc hn hl (hasSpsr_of_ne hu hs)).trans (finish_dataAbort hopen (Exec.bind_of_error hstore))
  · subst hlow
    exact (exec_ldm2 hc hn hl (hasSpsr_of_ne hu hs)).trans (finish_dataAbort hopen (Exec.bind_of_error hload))
  · subst hlow
    obtain ⟨psr, hpsr⟩ := spsr_of_mode (s := s) hu hs
    exact (exec_ldm3 hc hn hpsr).trans (finish_dataAbort hopen (Exec.bind_of_error hload))

theorem sync_aborts (hm : rm ≠ 15) (hn : rn ≠ 15) (hd : rd ≠ 15) :
    let aborts (i : Instr) : Prop := exec i s = .next (enterException .dataAbort s)
    let a := s.readReg rn
    let misaligned : Prop := low2 a ≠ 0 ∧ (s.alignA = true ∨ s.alignU = true)
    (misaligned ∨ (low2 a = 0 ∧ s.readAborts a 4) →
      ∃ t, exec (.ldrex c rn rd) s = .next t ∧ s.took .dataAbort t) ∧
    (misaligned ∨ (low2 a = 0 ∧ s.mappedBytes a 4 = false) → rd ≠ rn → rd ≠ rm → aborts (.strex c rn rd rm)) ∧
    (misaligned ∨ s.readAborts (a &&& 0xFFFFFFFC) 4 → rm ≠ rn → rd ≠ rn → aborts (.swp c rn rd rm)) ∧
    (s.mapped a = false → rm ≠ rn → rd ≠ rn → aborts (.swpb c rn rd rm)) := by
  intro aborts a misaligned
  refine ⟨fun h => ?ldrex, fun h hdn hdm => ?strex, fun h hmn hdn => ?swp, fun h hmn hdn => ?swpb⟩
  case ldrex =>
    have hbody : (checkExclusive s a >>= fun _ => memWord s a >>= fun data =>
        advance (((s.markGlobal a).markLocal a).writeReg rd data)) = .error .dataAbort := by
      rcases h with h | ⟨h0, h⟩
      · exact Exec.bind_of_error (checkExclusive_aborts h)
      · rw [Exec.bind_of_ok ((checkExclusive_ok ..).mpr h0)]
        exact Exec.bind_of_error (memWord_aborts h)
    have hopen' : (abortedLdrex s a).entryOpen := by
      rw [abortedLdrex_eq]
      exact hopen
    have htake := takeException_of_entryOpen (e := .dataAbort) hopen'
    refine ⟨_, ?_, AbortsFrom.took (i := .ldrex c rn rd) (.inr ⟨c, rn, rd, rfl, rfl⟩) htake⟩
    rw [exec_ldrex hc hn hd, hbody]
    exact htake
  case strex =>
    refine (exec_strex hc hn hd hm hdm hdn).trans (finish_dataAbort hopen ?_)
    rcases h with h | ⟨h0, h⟩
    · exact Exec.bind_of_error (checkExclusive_aborts h)
    · rw [Exec.bind_of_ok ((checkExclusive_ok ..).mpr h0)]
      exact Exec.bind_of_error (checkWords_aborts h)
  case swp =>
    refine (exec_swp hc hn hd hm hmn.symm hdn.symm).trans (finish_dataAbort hopen ?_)
    by_cases hmis : misaligned
    · exact Exec.bind_of_error (swapAddress_aborts hmis)
    · rw [Exec.bind_of_ok (swapAddress_of (alignOff_of hmis))]
      exact Exec.bind_of_error (memWord_aborts (h.resolve_left hmis))
  case swpb =>
    exact (exec_swpb hc hn hd hm hmn.symm hdn.symm).trans
      (finish_dataAbort hopen (Exec.bind_of_error (memByte_aborts h)))

end

/-- Settles O18. -/
theorem dataAborts : Obligations.DataAborts := by
  unfold Obligations.DataAborts
  intro c up rn rd s hc hopen aborts
  refine ⟨fun ix off acc hacc => wordAccess_aborts hc hopen hacc, fun ix off acc hacc =>
    mode3Access_aborts hc hopen hacc,
    fun am wb list hn hl h => multiple_aborts hc hopen hn hl h, fun am wb =>
      ⟨fun hn hu h => ?rfe, fun m hu hs h => ?srs⟩,
    fun m hm hn hd => sync_aborts hc hopen hm hn hd, ?coproc⟩
  case rfe =>
    exact (exec_rfe hn hu).trans (finish_dataAbort hopen (Exec.bind_of_error (blockStart_aborts h)))
  case srs =>
    obtain ⟨psr, hpsr⟩ := spsr_of_mode (s := s) hu hs
    exact (exec_srs hpsr).trans (finish_dataAbort hopen (Exec.bind_of_error (blockStart_aborts h)))
  case coproc =>
    intro two long am crd cp off acc hacc u hu i hi n hn h
    have ask : askCoproc s cp (encode i) = .ok (u, n) := (askCoproc_ok ..).mpr ⟨hu, hn⟩
    change exec i s = _
    rcases hi with rfl | rfl
    · rw [exec_ldc_forms fun _ => hc, ldcBody, Exec.bind_of_ok hacc, Exec.bind_of_ok ask]
      exact finish_dataAbort hopen (transferStart_aborts h)
    · rw [exec_stc_forms fun _ => hc, stcBody, Exec.bind_of_ok hacc, Exec.bind_of_ok ask]
      exact finish_dataAbort hopen (transferStart_aborts h)

end Sys2Proof.Machine
end

section
/-! The hazard of R630 (O60). -/

namespace Sys2Proof.Machine

variable {s : State}

theorem fetchBytes_hazard (b : BankHazard) (a : Word) (n : Nat) :
    fetchBytes { s with bankHazard := b } a n = fetchBytes s a n := by
  induction n generalizing a with
  | zero => rfl
  | succ n ih =>
    rw [fetchBytes, fetchBytes, ih]
    rfl

/-- The hazard plays no part in the fetch. -/
theorem fetch_hazard (b : BankHazard) : fetch { s with bankHazard := b } = fetch s := by
  rw [fetch, fetch, ← fetchBytes_hazard b]
  rfl

theorem hazardReg_of {m : Mode} {r : Reg}
    (h : 13 ≤ r.toNat ∧ r.toNat ≤ 14 ∨ m = .fiq ∧ 8 ≤ r.toNat ∧ r.toNat ≤ 12) : hazardReg m r = true := by
  have heq (k : Reg) : (r == k) = true ↔ r.toNat = k.toNat := by rw [beq_iff_eq, BitVec.toNat_inj]
  simp only [hazardReg, Bool.or_eq_true, Bool.and_eq_true, heq, beq_iff_eq, decide_eq_true_eq]
  have h13 : (13 : Reg).toNat = 13 := rfl
  have h14 : (14 : Reg).toNat = 14 := rfl
  rcases h with h | ⟨hm, h⟩
  · left
    omega
  · exact .inr ⟨⟨hm, h.1⟩, h.2⟩

/-- Settles O60: the hazard armed by the step before is live in this one. -/
theorem hazardFaults : Obligations.HazardFaults := by
  unfold Obligations.HazardFaults
  intro s i r hs hi harm hz hf hc hr hreg
  have hmeets : meetsHazard i { s with bankHazard := .live } = true := by
    have hany : (instrRegs i).any (hazardReg s.mode) = true := List.any_eq_true.mpr ⟨r, hr, hazardReg_of hreg⟩
    change (true && conditionPassed (instrCond i) s && (instrRegs i).any (hazardReg s.mode)) = true
    rw [hc, hany]
    rfl
  have hstep : stepAwake s.wake = .fault (.unpredictable .bankedAfterUserTransfer) := by
    rw [State.wake, if_pos hz, stepAwake_of_inArm (s := { s with bankHazard := .live }) hs hi harm, runFetched,
      fetch_hazard, hf]
    exact if_pos hmeets
  rw [step, hstep]

end Sys2Proof.Machine
end
